-- ==== Sys2Proof/Word.lean ====
section
/-! DEFINITION. The words of the ET24C: a byte of a line or of the segment memory, and a 16-bit word
(tick counts, points, the notice flag set, the trunk check). -/

namespace Sys2Proof

/-- One byte of the host line, of a trunk or of the segment memory. -/
abbrev Byte := BitVec 8

/-- A 16-bit value: tick counts and stamps (R151), points (R1), flag sets (8.3), the frame check (R49). -/
abbrev Word := BitVec 16

end Sys2Proof
end

