-- ==== Sys2Proof/Syntax.lean ====
section
/-! DEFINITION. The commands of the ET24C, one constructor for each row of spec/opcode_table.json. -/

namespace Sys2Proof

/-- A node number, 0 to 23 (00_scope.md, node numbering). -/
abbrev NodeId := Fin 24

/-- A trunk: 0 is A, 1 is B, 2 is C (the coding of R110 and R119). -/
abbrev TrunkId := Fin 3

/-- The commands. The first 29 are the host requests of 10.5, each with its payload bytes: such a command is the event in
which the whole request frame, addressed to this part and good by its check, has been received and is taken (R171; log
entry 1). The others are the events of the host line, of reset, of the tick, of the trunks and of the supplies. -/
inductive Instr where
  /-- READ_IDENTITY, R175. -/
  | readIdentity (payload : List Byte)
  /-- READ_STATUS, R149. -/
  | readStatus (payload : List Byte)
  /-- RESET_PART, R174. -/
  | resetPart (payload : List Byte)
  /-- SET_NOTICE_MASK, R145. -/
  | setNoticeMask (payload : List Byte)
  /-- CLEAR_NOTICES, R146. -/
  | clearNotices (payload : List Byte)
  /-- SUBMIT_ORDER, R4 to R6. -/
  | submitOrder (payload : List Byte)
  /-- FILL_ORDER, R34 to R36. -/
  | fillOrder (payload : List Byte)
  /-- COMMIT_ORDER, R20. -/
  | commitOrder (payload : List Byte)
  /-- CANCEL_ORDER, R21. -/
  | cancelOrder (payload : List Byte)
  /-- READ_ORDER, R27. -/
  | readOrder (payload : List Byte)
  /-- READ_FETCHED, R44 and R45. -/
  | readFetched (payload : List Byte)
  /-- RETIRE_ORDER, R28. -/
  | retireOrder (payload : List Byte)
  /-- TAKE_COMPLETIONS, R131 and R132. -/
  | takeCompletions (payload : List Byte)
  /-- SET_COMPLETION_NOTICE, R134. -/
  | setCompletionNotice (payload : List Byte)
  /-- READ_ATTENTION, R139. -/
  | readAttention (payload : List Byte)
  /-- CLEAR_ATTENTION, R140. -/
  | clearAttention (payload : List Byte)
  /-- READ_NODE, R103. -/
  | readNode (payload : List Byte)
  /-- ENABLE_NODE, R100. -/
  | enableNode (payload : List Byte)
  /-- DISABLE_NODE, R101. -/
  | disableNode (payload : List Byte)
  /-- RESTORE_NODE, R102. -/
  | restoreNode (payload : List Byte)
  /-- SET_TRUNK, R119. -/
  | setTrunk (payload : List Byte)
  /-- READ_TRUNK, R123. -/
  | readTrunk (payload : List Byte)
  /-- ENABLE_TRUNK, R110. -/
  | enableTrunk (payload : List Byte)
  /-- DISABLE_TRUNK, R112 and R114. -/
  | disableTrunk (payload : List Byte)
  /-- SET_MODE_CODE, R122. -/
  | setModeCode (payload : List Byte)
  /-- READ_REPORT, R163. -/
  | readReport (payload : List Byte)
  /-- SET_INTERVAL, R153. -/
  | setInterval (payload : List Byte)
  /-- SYNC_INTERVAL, R154. -/
  | syncInterval (payload : List Byte)
  /-- RESET_PEAK, R162. -/
  | resetPeak (payload : List Byte)
  /-- HOST_BYTE_RECEIVED, R167: a byte on HRX, and whether its stop bit was at the wrong level. -/
  | hostByteReceived (byte : Byte) (framingError : Bool)
  /-- GAP_TIMEOUT, R168: the inter-byte gap timer passes 10 ms. -/
  | gapTimeout
  /-- REPLY_START, R172: the first byte of the reply begins. -/
  | replyStart
  /-- REPLY_END, R172: the stop bit of the reply's last byte ends. -/
  | replyEnd
  /-- LINE_HOLD_RESET, R173: HRX has been low for 50 ms. -/
  | lineHoldReset
  /-- PIN_RESET, R177: RSTn has been low for 10 us. -/
  | pinReset
  /-- POWER_ON_RESET, R177: VDD rises above 3.0 V or falls below 2.7 V. -/
  | powerOnReset
  /-- RESET_RELEASE, R178: the last held reset condition ends, with the strap levels UA1..UA0 and BAUD1..BAUD0 and the
  level of HRX at that moment. -/
  | resetRelease (unit rate : BitVec 2) (hrxLow : Bool)
  /-- MEMORY_CHECK_PASSED, R179. -/
  | memoryCheckPassed
  /-- MEMORY_CHECK_FAILED, R179. -/
  | memoryCheckFailed
  /-- TICK, R151. -/
  | tick
  /-- ORDER_EXPIRY, R24, of the order with this tag. -/
  | orderExpiry (tag : Byte)
  /-- BUSY_BACKOFF_EXPIRY, R80. -/
  | busyBackoffExpiry (node : NodeId)
  /-- POLL_DUE, R81. -/
  | pollDue (node : NodeId)
  /-- HEAD_RECORD_AGED, R135. -/
  | headRecordAged
  /-- INTERVAL_END, R152. -/
  | intervalEnd
  /-- FRAME_SENT, R53: the stop bit of the last byte of a part-to-node frame. -/
  | frameSent (trunk : TrunkId)
  /-- REPLY_START_TIMEOUT, R54. -/
  | replyStartTimeout (trunk : TrunkId)
  /-- TRUNK_BYTE_RECEIVED, R55: a byte on the trunk's RX, and whether its stop bit was at the wrong level. -/
  | trunkByteReceived (trunk : TrunkId) (byte : Byte) (framingError : Bool)
  /-- REPLY_GAP_TIMEOUT, R55. -/
  | replyGapTimeout (trunk : TrunkId)
  /-- FAULT_WAIT_END, R55. -/
  | faultWaitEnd (trunk : TrunkId)
  /-- GUARD_END, R59. -/
  | guardEnd (trunk : TrunkId)
  /-- SENSE_CHANGE, R108: the sense input takes this level, true for good (high). -/
  | senseChange (trunk : TrunkId) (good : Bool)
  /-- SUPPLY_FAULT, R115 and R116: the fault filter reaches 20 ms. -/
  | supplyFault (trunk : TrunkId)
  /-- SETTLE_END, R111: the settle timer reaches 500 ms. -/
  | settleEnd (trunk : TrunkId)
  /-- TRUNK_RECOVERY, R117: the recovery timer reaches 500 ms. -/
  | trunkRecovery (trunk : TrunkId)
  deriving DecidableEq, Repr

end Sys2Proof
end

