-- ==== Sys2Proof/Config.lean ====
section
/-! DEFINITION. What the part fixes (sizes and limits of the blocks) and the one free value the spec leaves open. -/

namespace Sys2Proof.Config

/-- Entries of the Order Table (R1). -/
abbrev orderEntries : Nat := 48
/-- Segments of the Segment Pool (R29). -/
abbrev segments : Nat := 96
/-- Bytes of one segment (R29). -/
abbrev segmentBytes : Nat := 256
/-- Most orders in one node queue (R7). -/
abbrev nodeQueueLimit : Nat := 6
/-- Most records in the Completion Queue (R125). -/
abbrev completionRecords : Nat := 32
/-- Most records one TAKE_COMPLETIONS returns (R131). -/
abbrev takeLimit : Nat := 7
/-- Reports in one trunk's ring (R161). -/
abbrev reportsPerTrunk : Nat := 4
/-- Consecutive BUSY replies that end an order NODE_BUSY (R14). -/
abbrev busyLimit : Nat := 8
/-- Ticks a busy backoff adds to the tick of the BUSY (R80). -/
abbrev backoffTicks : Nat := 3
/-- Longest payload of a host line frame (10.2). -/
abbrev hostPayloadLimit : Nat := 200
/-- Longest payload of a trunk frame (3.2). -/
abbrev trunkPayloadLimit : Nat := 260
/-- Most data bytes in one FILL_ORDER or READ_FETCHED (R34, R44). -/
abbrev dataLimit : Nat := 192
/-- Upper bound of the 16-bit saturating counters (R92, R155). -/
abbrev counterLimit : Nat := 65535
/-- Upper bound of the bytes-moved counter (R155). -/
abbrev bytesLimit : Nat := 16777215
/-- Upper bound of the 8-bit saturating counters (R1, R137, R159, R165). -/
abbrev byteLimit : Nat := 255

/-- FREE VALUE (DESIGN CHOICE, log entry 14). R27 gives bytes 17-18 of READ_ORDER as the deadline minus the age while the order
is unended; an order marked at its expiry stays unended with an age above its deadline, and the spec states no value of the
field there. The value depends on the deadline and the age and nothing else is known of it. -/
opaque remainingPastDeadline : Nat → Nat → Word

end Sys2Proof.Config
end

