-- ==== Sys2Proof/Machine/State.lean ====
section
/-! DEFINITION. The state of the ET24C, block by block (00_scope.md, functional blocks), as plain data, and its value right
after reset. Every piece is listed with its rule in INVENTORY.md. -/

namespace Sys2Proof.Machine

open Sys2Proof

/-- A segment number, 0 to 95 (R29). -/
abbrev SegId := Fin 96

/-! ## Start-up control -/

/-- The part states of R179 to R181, and the model's own `inReset` between the begin and the release of a reset (log entry 11). -/
inductive PartState where
  | inReset | starting | ready | failed
  deriving DecidableEq, Repr

/-- The four kinds of reset (R177). -/
inductive ResetKind where
  | powerOn | pin | lineHold | request
  deriving DecidableEq, Repr

/-- Start-up Control: the part state, the reset cause and the reset conditions held (R177 to R181). -/
structure StartUp where
  part : PartState
  cause : ResetKind
  heldPowerOn : Bool
  heldPin : Bool
  heldLineHold : Bool
  deriving DecidableEq, Repr

/-! ## Host Line Unit -/

/-- The outcome codes of 10.5. -/
inductive OutcomeCode where
  | accepted | cancelPending
  | unknownKind | badLength | badField | starting | failed
  | tagBusy | noSuchTag | wrongState | tableFull | nodeQueueFull | poolEmpty | nodeUnavailable | trunkUnavailable
  | fillGap | overrun | shortFill | notOwned | noReport | tooLate
  deriving DecidableEq, Repr

/-- The receiver states of R167. -/
inductive Receiver where
  | hunting | inFrame | replying
  deriving DecidableEq, Repr

/-- A reply fixed when its request was taken (R171): the kind byte it repeats, the outcome, the payload, and whether a reset of
kind REQUEST begins at its end (R174). -/
structure Reply where
  kind : Byte
  outcome : OutcomeCode
  payload : List Byte
  resetAfter : Bool
  deriving DecidableEq, Repr

/-- The Host Line Unit (R165, R167, R172, R173). `htx` is the frame HTX is driven with, none while HTX is not driven.
`hrxLow` is the level of HRX as last known and `lineHold` says that the line-hold timer runs. -/
structure HostLine where
  unit : BitVec 2
  rate : BitVec 2
  receiver : Receiver
  buffer : List Byte
  gapTimer : Bool
  errorCount : Nat
  hrxLow : Bool
  lineHold : Bool
  reply : Option Reply
  replyErrorCounted : Bool
  htx : Option (List Byte)
  deriving DecidableEq, Repr

/-! ## Order Manager -/

/-- The order kinds of R3. -/
inductive OrderKind where
  | pointRead | pointWrite | bulkSend | bulkFetch | echoTest | nodeReset
  deriving DecidableEq, Repr

/-- The order classes (R1, R8). -/
inductive OrderClass where
  | routine | urgent
  deriving DecidableEq, Repr

/-- The states of a live entry (R1); a FREE entry holds no order. -/
inductive OrderState where
  | filling | queued | active | ended | parked
  deriving DecidableEq, Repr

/-- The pending marks (R1, R16). -/
inductive Mark where
  | cancel | expire
  deriving DecidableEq, Repr

/-- The nine results of R127. -/
inductive Result where
  | done | nodeRejected | noReply | nodeBusy | echoMismatch | expired | cancelled | nodeIsolated | trunkDown
  deriving DecidableEq, Repr

/-- A live order entry, with the fields of R1. -/
structure Order where
  tag : Byte
  node : NodeId
  kind : OrderKind
  cls : OrderClass
  point : Option Word
  length : Nat
  inlineData : List Byte
  seed : Option Byte
  deadline : Option Nat
  accepted : Word
  chain : List SegId
  fill : Nat
  progress : Nat
  retries : Nat
  mark : Option Mark
  result : Option Result
  nakReason : Byte
  endStamp : Word
  state : OrderState
  deriving DecidableEq, Repr

/-- A completion record (R126). -/
structure CompletionRecord where
  tag : Byte
  node : NodeId
  kind : OrderKind
  result : Result
  nakReason : Byte
  progress : Nat
  retries : Nat
  endStamp : Word
  data : List Byte
  deriving DecidableEq, Repr

/-- The Order Table (R1; `none` is a FREE entry), the 24 node queues as lists of tags, head first (R7), and the backlog, each
ended entry by the completion record built at its end, oldest first (R126, R128). -/
structure OrderTable where
  entries : Vector (Option Order) 48
  queues : Vector (List Byte) 24
  backlog : List CompletionRecord
  deriving DecidableEq, Repr

/-! ## Segment Pool -/

/-- The owners of a segment (R29). -/
inductive Owner where
  | free | hostSide | trunkSide
  deriving DecidableEq, Repr

/-- A segment record (R29). -/
structure Segment where
  owner : Owner
  tag : Option Byte
  fill : Nat
  deriving DecidableEq, Repr

/-- The Segment Pool: the 96 segment records, the free list (R30) and the transfer memory, a canonical list of
(256 x segment number + position, byte). -/
structure SegmentPool where
  segs : Vector Segment 96
  freeList : List SegId
  mem : List Host.Cell
  deriving DecidableEq, Repr

/-! ## Node Table -/

/-- The node states (R92). -/
inductive NodeState where
  | disabled | unseen | online | isolated
  deriving DecidableEq, Repr

/-- A node record (R92). -/
structure NodeRecord where
  state : NodeState
  seqBit : Bool
  consecutive : Nat
  total : Nat
  lastExchange : Word
  deriving DecidableEq, Repr

/-! ## Grant Schedulers -/

/-- What a Grant Scheduler holds for one node (R75). -/
structure NodeSchedule where
  expiry : Option Word
  inForce : Bool
  pollDue : Bool
  deriving DecidableEq, Repr

/-- What a Grant Scheduler holds for its trunk (R75). A pointer is held as its station address minus 1. -/
structure Scheduler where
  ptrU : Fin 8
  ptrR : Fin 8
  ptrP : Fin 8
  passR : Nat
  passP : Nat
  announce : Bool
  deriving DecidableEq, Repr

/-! ## Trunk Engines -/

/-- The exchange types of 3.3. -/
inductive ExchangeType where
  | poll | get | put | sendBlock | fetchBlock | echo | resetNode | announce
  deriving DecidableEq, Repr

/-- The exchange states of 3.4. -/
inductive EnginePhase where
  | idle | sending | awaiting | receiving | guard
  deriving DecidableEq, Repr

/-- The current-exchange record (R52). `single` says that a poll is allowed one attempt (R60), `frame` is the frame built when
the exchange was offered (R51), and `noStart`, `broken` and `stray` count this offering's classifications for R72. -/
structure Exchange where
  node : Option NodeId
  type : ExchangeType
  order : Option Byte
  seqBit : Bool
  resync : Bool
  mode : BitVec 6
  attempts : Nat
  retriesSent : Nat
  busyCount : Nat
  single : Bool
  noStart : Nat
  broken : Nat
  stray : Nat
  frame : List Byte
  deriving DecidableEq, Repr

/-- The kinds of grant (R87). -/
inductive GrantKind where
  | announce | order | poll
  deriving DecidableEq, Repr

/-- The grant record (R87). `ackEnded` says that the exchange just ended ended with a GOOD ACK (R88). -/
structure Grant where
  kind : GrantKind
  node : Option NodeId
  tag : Option Byte
  burst : Nat
  ackEnded : Bool
  deriving DecidableEq, Repr

/-- A Trunk Engine. `exch` is present exactly while an exchange is in flight; in GUARD that means that a retry is due. -/
structure Engine where
  phase : EnginePhase
  exch : Option Exchange
  grant : Option Grant
  rx : List Byte
  rxFault : Bool
  guardTimes : Nat
  deriving DecidableEq, Repr

/-- A held exchange (R63). -/
structure HeldExchange where
  tag : Byte
  type : ExchangeType
  seqBit : Bool
  resync : Bool
  mode : BitVec 6
  attempts : Nat
  busyCount : Nat
  deriving DecidableEq, Repr

/-! ## Trunk state -/

/-- The trunk states (R107). -/
inductive TrunkState where
  | disabled | active | quiet | stopping | down
  deriving DecidableEq, Repr

/-- The wait indications (R107). -/
inductive WaitIndication where
  | none | settle | recovery
  deriving DecidableEq, Repr

/-- The peak modes (6.7, byte 10). -/
inductive PeakMode where
  | interval | held
  deriving DecidableEq, Repr

/-- A trunk configuration record (6.7). -/
structure TrunkConfig where
  rate : Nat
  pollPeriod : Nat
  replyTimeout : Nat
  retryLimit : Nat
  isolation : Nat
  burstLimit : Nat
  guardLimit : Nat
  rotateU : Bool
  rotateR : Bool
  rotateP : Bool
  quietLimit : Nat
  peakMode : PeakMode
  degradeLimit : Nat
  deriving DecidableEq, Repr

/-- A trunk's state, wait indication, configuration, mode code, and its idle-interval count and order-exchange indication
(R107, R119, R68, R120). -/
structure TrunkControl where
  state : TrunkState
  wait : WaitIndication
  config : TrunkConfig
  mode : BitVec 6
  idleCount : Nat
  orderExchange : Bool
  deriving DecidableEq, Repr

/-! ## Supply Monitors -/

/-- A Supply Monitor with its pins (R108). The monitor runs while the power output is on. A timer is running or stopped. -/
structure SupplyMonitor where
  power : Bool
  senseGood : Bool
  supplyLow : Bool
  faultFilter : Bool
  settleTimer : Bool
  recoveryTimer : Bool
  deriving DecidableEq, Repr

/-! ## Completion Queue, Attention List, Notice Unit -/

/-- A record in the Completion Queue, with its post stamp (R125). -/
structure Posted where
  record : CompletionRecord
  stamp : Word
  deriving DecidableEq, Repr

/-- The Completion Queue, its settings (R134) and whether its head record is aged (R135). -/
structure CompletionQueue where
  records : List Posted
  watermark : Nat
  ageLimit : Nat
  headAged : Bool
  deriving DecidableEq, Repr

/-- An attention entry (R137). -/
structure AttentionEntry where
  node : NodeId
  code : Byte
  repeats : Nat
  seen : Bool
  renewed : Bool
  deriving DecidableEq, Repr

/-- The Notice Unit: the nine flags and the mask in the flag-set layout of 8.3, the supply-fault-seen flags and the ATTN pin. -/
structure NoticeUnit where
  flags : Word
  mask : Word
  faultSeen : Vector Bool 3
  attn : Bool
  deriving DecidableEq, Repr

/-! ## Interval Unit -/

/-- The eleven interval counters of a trunk (R155). -/
structure Counters where
  started : Nat
  good : Nat
  noStart : Nat
  broken : Nat
  stray : Nat
  busy : Nat
  retries : Nat
  isolations : Nat
  ordersDone : Nat
  ordersOther : Nat
  bytesMoved : Nat
  deriving DecidableEq, Repr

/-- A stored interval report (R157). -/
structure Report where
  sequence : BitVec 4
  state : TrunkState
  wasDown : Bool
  wasQuiet : Bool
  short : Bool
  faultClass : Nat
  severe : Nat
  peak : Nat
  endStamp : Word
  span : Nat
  counts : Counters
  deriving DecidableEq, Repr

/-- The Interval Unit's state for one trunk (R155, R157, R159 to R161); the ring holds the newest report first. -/
structure Meter where
  counts : Counters
  wasDown : Bool
  wasQuiet : Bool
  severe : Nat
  peak : Nat
  ring : List Report
  sequence : BitVec 4
  deriving DecidableEq, Repr

/-- The tick count and the interval (R151, R152). -/
structure IntervalUnit where
  tick : Word
  length : Nat
  pendingLength : Option Nat
  position : Nat
  deriving DecidableEq, Repr

/-- What a tick event leaves to the blocks that act on time (R151): the claims not yet taken (log entry 4). -/
inductive TickClaim where
  | expiry (tag : Byte)
  | backoff (node : NodeId)
  | poll (node : NodeId)
  | headAged
  | intervalEnd
  deriving DecidableEq, Repr

/-! ## The whole -/

/-- The state of the part, and the queue of commands waiting, first in, first out. -/
structure State where
  pending : List Instr
  startUp : StartUp
  hostLine : HostLine
  table : OrderTable
  pool : SegmentPool
  nodes : Vector NodeRecord 24
  nodeScheds : Vector NodeSchedule 24
  held : Vector (Option HeldExchange) 24
  scheds : Vector Scheduler 3
  engines : Vector Engine 3
  trunks : Vector TrunkControl 3
  supplies : Vector SupplyMonitor 3
  completions : CompletionQueue
  attention : List AttentionEntry
  notices : NoticeUnit
  interval : IntervalUnit
  meters : Vector Meter 3
  claims : List TickClaim
  deriving DecidableEq, Repr

/-- Faults: none. The spec gives no event that stops the part (INVENTORY.md, Faults), so this type has no constructor. -/
inductive Fault where
  deriving DecidableEq, Repr

/-- Refusals. -/
inductive Refusal where
  /-- Raised by `exec` alone, for a command whose meaning is not written yet. Safe: the model stops. -/
  | notModelled (mnemonic : String)
  deriving DecidableEq, Repr

/-! ## Reset values -/

/-- The default configuration record (6.7). -/
def TrunkConfig.default : TrunkConfig where
  rate := 1
  pollPeriod := 20
  replyTimeout := 4
  retryLimit := 2
  isolation := 3
  burstLimit := 2
  guardLimit := 8
  rotateU := true
  rotateR := true
  rotateP := true
  quietLimit := 0
  peakMode := .interval
  degradeLimit := 0

/-- The reset value of the Order Manager (R1, R7, R125). -/
def OrderTable.reset : OrderTable where
  entries := Vector.replicate 48 none
  queues := Vector.replicate 24 []
  backlog := []

/-- All 96 segment numbers, ascending (R29). -/
def allSegments : List SegId := List.finRange 96

/-- The reset value of the Segment Pool (R29). The contents of the memory are the model's choice (log entry 9). -/
def SegmentPool.reset : SegmentPool where
  segs := Vector.replicate 96 ⟨.free, none, 0⟩
  freeList := allSegments
  mem := []

/-- The reset value of a node record (R92). -/
def NodeRecord.reset : NodeRecord := ⟨.unseen, false, 0, 0, 0⟩

/-- The reset value of the scheduler's node fields (R75). -/
def NodeSchedule.reset : NodeSchedule := ⟨none, false, false⟩

/-- The reset value of a scheduler: pointers at station address 8 (R75). -/
def Scheduler.reset : Scheduler := ⟨7, 7, 7, 0, 0, false⟩

/-- The reset value of an engine (R52, R87). -/
def Engine.reset : Engine := ⟨.idle, none, none, [], false, 0⟩

/-- The reset value of a trunk (R107, R68, R119, R120). -/
def TrunkControl.reset : TrunkControl := ⟨.disabled, .none, .default, 63, 0, false⟩

/-- The reset value of a Supply Monitor (R107, R108), whose sense input keeps its level. -/
def SupplyMonitor.reset (senseGood : Bool) : SupplyMonitor := ⟨false, senseGood, false, false, false, false⟩

/-- Interval counters of 0 (R155). -/
def Counters.zero : Counters := ⟨0, 0, 0, 0, 0, 0, 0, 0, 0, 0, 0⟩

/-- The reset value of a trunk's interval state (R155, R157, R159 to R161). -/
def Meter.reset : Meter := ⟨.zero, false, false, 0, 0, [], 0⟩

/-- The part right after the release of a reset of this kind (R178), with these strap levels and this level of HRX, these
sense levels and these commands waiting. -/
def State.released (pending : List Instr) (cause : ResetKind) (unit rate : BitVec 2) (hrxLow : Bool)
    (sense : Vector Bool 3) : State where
  pending := pending
  startUp := ⟨.starting, cause, false, false, false⟩
  hostLine := ⟨unit, rate, .hunting, [], false, 0, hrxLow, hrxLow, none, false, none⟩
  table := .reset
  pool := .reset
  nodes := Vector.replicate 24 .reset
  nodeScheds := Vector.replicate 24 .reset
  held := Vector.replicate 24 none
  scheds := Vector.replicate 3 .reset
  engines := Vector.replicate 3 .reset
  trunks := Vector.replicate 3 .reset
  supplies := sense.map SupplyMonitor.reset
  completions := ⟨[], 1, 5, false⟩
  attention := []
  notices := ⟨0, 0x000F, Vector.replicate 3 false, false⟩
  interval := ⟨0, 100, none, 0⟩
  meters := Vector.replicate 3 .reset
  claims := []

/-- The part right after reset: a POWER_ON reset released with straps 0, HRX high and the sense inputs low (log entries 7, 8). -/
def State.reset : State :=
  State.released [] .powerOn 0 0 false (Vector.replicate 3 false)

end Sys2Proof.Machine
end

