-- ==== Sys2Proof/Machine/Flags.lean ====
section
/-! DEFINITION. The notice flags, the mask and the ATTN pin (8.3 to 8.5). -/

namespace Sys2Proof.Machine

open Sys2Proof

/-- The nine notice flags (8.3). -/
inductive NoticeFlag where
  | completions | attention | nodeIsolated | trunkDown | trunkRestored | trunkDegraded | reportReady | lineError | backlog
  deriving DecidableEq, Repr

/-- The bit position of a flag in the flag set (8.3). -/
def NoticeFlag.bit : NoticeFlag → Nat
  | .completions => 0 | .attention => 1 | .nodeIsolated => 2 | .trunkDown => 3 | .trunkRestored => 4
  | .trunkDegraded => 5 | .reportReady => 6 | .lineError => 7 | .backlog => 8

/-- The flag set with this one flag. -/
def NoticeFlag.mask (f : NoticeFlag) : Word := 1#16 <<< f.bit

/-- The seven latched flags (8.3): bits 2 to 8. -/
def latchedFlags : Word := 0x01FC

/-- The positions without a flag, bits 9 to 15 (8.3). -/
def unusedFlags : Word := 0xFE00

/-- The level of ATTN (R148): high while the part is READY and a flag is true whose mask bit is on. -/
def attnLevel (part : PartState) (n : NoticeUnit) : Bool :=
  decide (part = .ready) && decide (n.flags &&& n.mask ≠ 0)

/-- The Notice Unit with one flag set. -/
def NoticeUnit.raise (f : NoticeFlag) (n : NoticeUnit) : NoticeUnit := { n with flags := n.flags ||| f.mask }

/-- The Notice Unit with one flag given a value (a level flag handed over by its owner, R144). -/
def NoticeUnit.put (f : NoticeFlag) (b : Bool) (n : NoticeUnit) : NoticeUnit :=
  { n with flags := if b then n.flags ||| f.mask else n.flags &&& ~~~f.mask }

/-- Whether a flag is true. -/
def NoticeUnit.has (f : NoticeFlag) (n : NoticeUnit) : Bool := n.flags.getLsbD f.bit

/-- A change of the Notice Unit, after which ATTN is taken anew in the same event (R148). -/
def State.withNotices (f : NoticeUnit → NoticeUnit) (s : State) : State :=
  { s with notices := { f s.notices with attn := attnLevel s.startUp.part (f s.notices) } }

/-- Latching a flag (R143). -/
def State.latch (f : NoticeFlag) (s : State) : State := s.withNotices (NoticeUnit.raise f)

/-- The COMPLETIONS level of a queue (R135). -/
def CompletionQueue.level (q : CompletionQueue) : Bool :=
  decide (q.watermark ≤ q.records.length) || (!q.records.isEmpty && decide (q.ageLimit ≠ 0) && q.headAged)

/-- The COMPLETIONS level taken anew and handed to the Notice Unit (R135, R136). -/
def State.takeCompletionsLevel (s : State) : State := s.withNotices (NoticeUnit.put .completions s.completions.level)

/-- The ATTENTION level of a list (R142). -/
def attentionLevel (l : List AttentionEntry) : Bool := l.any fun e => !e.seen

/-- The ATTENTION level taken anew and handed to the Notice Unit (R142, R144). -/
def State.takeAttentionLevel (s : State) : State := s.withNotices (NoticeUnit.put .attention (attentionLevel s.attention))

/-- A host line error (R168, R170, R172): the count rises, saturating, and LINE_ERROR is latched. -/
def State.lineError (s : State) : State :=
  ({ s with hostLine := { s.hostLine with errorCount := min Config.byteLimit (s.hostLine.errorCount + 1) } }).latch .lineError

/-- The three fault-seen flags, or three SUPPLY_LOW flags, as bits 0 to 2 of a byte. -/
def trunkBits (a b c : Bool) : Byte :=
  (if a then 1 else 0) ||| (if b then 2 else 0) ||| (if c then 4 else 0)

end Sys2Proof.Machine
end

