-- ==== Sys2Proof/Machine/Operands.lean ====
section
/-! DEFINITION. The operand forms: bytes and fields of payloads, node and trunk numbering, the codes of the spec's tables, the
checks of the two lines and the frames built with them. -/

namespace Sys2Proof.Machine

open Sys2Proof

/-! ## Bytes of a payload -/

/-- Byte `i` of a payload (0 past its end; every use stands behind the request's length check). -/
def byteAt (p : List Byte) (i : Nat) : Byte := p.getD i 0

/-- The two-byte field at `i`, low byte first (00_scope.md, byte order). -/
def wordAt (p : List Byte) (i : Nat) : Word := byteAt p (i + 1) ++ byteAt p i

/-- A word as two bytes, low byte first. -/
def leWord (w : Word) : List Byte := [w.setWidth 8, (w >>> 8).setWidth 8]

/-- A count as one byte. -/
def byteOf (n : Nat) : Byte := BitVec.ofNat 8 n

/-- A count as two bytes, low byte first. -/
def leNat (n : Nat) : List Byte := leWord (BitVec.ofNat 16 n)

/-- A count as three bytes, low byte first (bytes moved, 9.6). -/
def leNat3 (n : Nat) : List Byte := [byteOf n, byteOf (n / 256), byteOf (n / 65536)]

/-- A flag as a byte. -/
def flagByte (b : Bool) : Byte := if b then 1 else 0

/-! ## Nodes and trunks (00_scope.md, node numbering) -/

/-- The trunk of a node. -/
def trunkOf (n : NodeId) : TrunkId := ⟨n.val / 8, by omega⟩

/-- The place of a node on its trunk, 0 to 7: its station address minus 1. -/
def slotOf (n : NodeId) : Fin 8 := ⟨n.val % 8, by omega⟩

/-- The node at a place of a trunk. -/
def nodeAt (t : TrunkId) (k : Fin 8) : NodeId := ⟨8 * t.val + k.val, by omega⟩

/-- The station address of a node, 1 to 8. -/
def stationOf (n : NodeId) : Byte := byteOf (n.val % 8 + 1)

/-- The places of a trunk in ascending station address. -/
def allSlots : List (Fin 8) := [0, 1, 2, 3, 4, 5, 6, 7]

/-- The nodes of a trunk in ascending node number. -/
def trunkNodes (t : TrunkId) : List NodeId := allSlots.map (nodeAt t)

/-- All node numbers, ascending. -/
def allNodes : List NodeId := trunkNodes 0 ++ trunkNodes 1 ++ trunkNodes 2

/-- A node number read from a byte; none above 23. -/
def nodeOfByte (b : Byte) : Option NodeId := if h : b.toNat < 24 then some ⟨b.toNat, h⟩ else none

/-- A trunk read from a byte; none above 2. -/
def trunkOfByte (b : Byte) : Option TrunkId := if h : b.toNat < 3 then some ⟨b.toNat, h⟩ else none

/-- The age of a thing stamped in ticks (00_scope.md, tick). -/
def age (now stamp : Word) : Nat := (now - stamp).toNat

/-! ## Codes -/

/-- The outcome codes of 10.5. -/
def OutcomeCode.code : OutcomeCode → Byte
  | .accepted => 0x00 | .cancelPending => 0x01
  | .unknownKind => 0x10 | .badLength => 0x11 | .badField => 0x12 | .starting => 0x13 | .failed => 0x14
  | .tagBusy => 0x20 | .noSuchTag => 0x21 | .wrongState => 0x22 | .tableFull => 0x23 | .nodeQueueFull => 0x24
  | .poolEmpty => 0x25 | .nodeUnavailable => 0x26 | .trunkUnavailable => 0x27 | .fillGap => 0x28 | .overrun => 0x29
  | .shortFill => 0x2A | .notOwned => 0x2B | .noReport => 0x2C | .tooLate => 0x2D

/-- The order kind of a SUBMIT_ORDER byte (1.2). -/
def orderKindOf (b : Byte) : Option OrderKind :=
  match b.toNat with
  | 1 => some .pointRead | 2 => some .pointWrite | 3 => some .bulkSend
  | 4 => some .bulkFetch | 5 => some .echoTest | 6 => some .nodeReset
  | _ => none

/-- The code of an order kind (1.2). -/
def OrderKind.code : OrderKind → Byte
  | .pointRead => 1 | .pointWrite => 2 | .bulkSend => 3 | .bulkFetch => 4 | .echoTest => 5 | .nodeReset => 6

/-- The order class of a SUBMIT_ORDER byte (1.2). -/
def orderClassOf (b : Byte) : Option OrderClass :=
  match b.toNat with
  | 0 => some .routine | 1 => some .urgent
  | _ => none

/-- The code of an order class (1.2). -/
def OrderClass.code : OrderClass → Byte
  | .routine => 0 | .urgent => 1

/-- The state byte of READ_ORDER (R27). -/
def OrderState.code : OrderState → Byte
  | .filling => 1 | .queued => 2 | .active => 3 | .ended => 4 | .parked => 5

/-- The pending-mark byte of READ_ORDER (R27). -/
def markCode : Option Mark → Byte
  | none => 0 | some .cancel => 1 | some .expire => 2

/-- The result codes of R127. -/
def Result.code : Result → Byte
  | .done => 1 | .nodeRejected => 2 | .noReply => 3 | .nodeBusy => 4 | .echoMismatch => 5 | .expired => 6
  | .cancelled => 7 | .nodeIsolated => 8 | .trunkDown => 9

/-- The result a pending mark gives an order (R16). -/
def Mark.result : Mark → Result
  | .cancel => .cancelled | .expire => .expired

/-- The node state byte of READ_NODE (R103). -/
def NodeState.code : NodeState → Byte
  | .disabled => 0 | .unseen => 1 | .online => 2 | .isolated => 3

/-- The trunk state byte of READ_TRUNK, READ_STATUS and READ_REPORT (R123). -/
def TrunkState.code : TrunkState → Byte
  | .disabled => 0 | .active => 1 | .quiet => 2 | .stopping => 3 | .down => 4

/-- The wait byte of READ_TRUNK (R123). -/
def WaitIndication.code : WaitIndication → Byte
  | .none => 0 | .settle => 1 | .recovery => 2

/-- The part state byte of READ_STATUS (8.6); no request is taken while the part is in reset. -/
def PartState.code : PartState → Byte
  | .inReset => 0 | .starting => 0 | .ready => 1 | .failed => 2

/-- The reset cause byte of READ_STATUS (R177). -/
def ResetKind.code : ResetKind → Byte
  | .powerOn => 0 | .pin => 1 | .lineHold => 2 | .request => 3

/-- The exchange type codes of 3.3. -/
def ExchangeType.code : ExchangeType → Byte
  | .poll => 0 | .get => 1 | .put => 2 | .sendBlock => 3 | .fetchBlock => 4 | .echo => 5 | .resetNode => 6 | .announce => 7

/-- The exchange type that carries out an order kind (R3). -/
def OrderKind.exchangeType : OrderKind → ExchangeType
  | .pointRead => .get | .pointWrite => .put | .bulkSend => .sendBlock | .bulkFetch => .fetchBlock
  | .echoTest => .echo | .nodeReset => .resetNode

/-- The bulk kinds (R3). -/
def OrderKind.isBulk : OrderKind → Bool
  | .bulkSend => true | .bulkFetch => true
  | .pointRead => false | .pointWrite => false | .echoTest => false | .nodeReset => false

/-- The kinds with a point (R3). -/
def OrderKind.hasPoint : OrderKind → Bool
  | .pointRead => true | .pointWrite => true
  | .bulkSend => false | .bulkFetch => false | .echoTest => false | .nodeReset => false

/-- The range of the length of each kind (R3). -/
def OrderKind.lengthOk (k : OrderKind) (n : Nat) : Bool :=
  match k with
  | .pointRead => decide (1 ≤ n ∧ n ≤ 16)
  | .pointWrite => decide (1 ≤ n ∧ n ≤ 16)
  | .bulkSend => decide (1 ≤ n ∧ n ≤ 2048)
  | .bulkFetch => decide (1 ≤ n ∧ n ≤ 2048)
  | .echoTest => decide (1 ≤ n ∧ n ≤ 256)
  | .nodeReset => decide (n = 0)

/-- The segments a length needs, ceil(length/256) (R3). -/
def segmentsFor (length : Nat) : Nat := (length + 255) / 256

/-- The part-state coding of a trunk configuration record: bytes 1-11 of SET_TRUNK (6.7). -/
def TrunkConfig.encode (c : TrunkConfig) : List Byte :=
  [byteOf c.rate, byteOf c.pollPeriod, byteOf c.replyTimeout, byteOf c.retryLimit, byteOf c.isolation,
   byteOf c.burstLimit, byteOf c.guardLimit,
   flagByte c.rotateU ||| flagByte c.rotateR <<< 1 ||| flagByte c.rotateP <<< 2,
   byteOf c.quietLimit, (match c.peakMode with | .interval => 0 | .held => 1), byteOf c.degradeLimit]

/-- The ranges of bytes 1-11 of SET_TRUNK (6.7). -/
def configFieldsOk (p : List Byte) : Bool :=
  let v (i : Nat) : Nat := (byteAt p i).toNat
  decide (v 1 ≤ 3) && decide (5 ≤ v 2) && decide (1 ≤ v 3 ∧ v 3 ≤ 15) && decide (v 4 ≤ 3) &&
  decide (1 ≤ v 5 ∧ v 5 ≤ 7) && decide (1 ≤ v 6 ∧ v 6 ≤ 8) && decide (2 ≤ v 7 ∧ v 7 ≤ 15) && decide (v 8 ≤ 7) &&
  decide (v 9 ≤ 15) && decide (v 10 ≤ 1) && decide (v 11 ≤ 15)

/-- The configuration record of a SET_TRUNK payload (6.7). -/
def configOf (p : List Byte) : TrunkConfig where
  rate := (byteAt p 1).toNat
  pollPeriod := (byteAt p 2).toNat
  replyTimeout := (byteAt p 3).toNat
  retryLimit := (byteAt p 4).toNat
  isolation := (byteAt p 5).toNat
  burstLimit := (byteAt p 6).toNat
  guardLimit := (byteAt p 7).toNat
  rotateU := (byteAt p 8).getLsbD 0
  rotateR := (byteAt p 8).getLsbD 1
  rotateP := (byteAt p 8).getLsbD 2
  quietLimit := (byteAt p 9).toNat
  peakMode := if byteAt p 10 = 1 then .held else .interval
  degradeLimit := (byteAt p 11).toNat

/-- A completion record in the layout of R126. -/
def CompletionRecord.encode (r : CompletionRecord) : List Byte :=
  [r.tag, byteOf r.node.val, r.kind.code, r.result.code, r.nakReason] ++ leNat r.progress ++ [byteOf r.retries] ++
  leWord r.endStamp ++ [byteOf r.data.length] ++ r.data

/-! ## The host line (10.2) -/

/-- The sum of bytes modulo 256. -/
def byteSum (bs : List Byte) : Byte := bs.foldr (· + ·) 0

/-- The check byte after these bytes: 0xA5 minus their sum (R166). -/
def hostCheck (bs : List Byte) : Byte := 0xA5 - byteSum bs

/-- The request frame of a kind and payload, addressed to a unit alone (10.2). -/
def requestFrame (unit : BitVec 2) (kind : Byte) (payload : List Byte) : List Byte :=
  let body := 0xB5#8 :: unit.setWidth 8 :: kind :: byteOf payload.length :: payload
  body ++ [hostCheck body]

/-- The reply frame of a unit (10.2, R166). -/
def replyFrame (unit : BitVec 2) (r : Reply) : List Byte :=
  let body := 0xB6#8 :: unit.setWidth 8 :: r.kind :: r.outcome.code :: byteOf r.payload.length :: r.payload
  body ++ [hostCheck body]

/-! ## The trunk line (3.2) -/

/-- One advance of the check register (R49): a shift left, with 0x1021 combined in when the bit shifted out was 1. -/
def crcAdvance (r : Word) : Word := if r.msb then (r <<< 1) ^^^ 0x1021#16 else r <<< 1

/-- One byte taken into the check register (R49): combined with its high eight bits, then eight advances. -/
def crcByte (r : Word) (b : Byte) : Word :=
  crcAdvance (crcAdvance (crcAdvance (crcAdvance (crcAdvance (crcAdvance (crcAdvance (crcAdvance
    (r ^^^ (b.setWidth 16 <<< 8)))))))))

/-- The check of a trunk frame over these bytes (R49). -/
def trunkCheck (bs : List Byte) : Word := bs.foldl crcByte 0xFFFF#16

/-- A part-to-node frame (3.2, R48). -/
def trunkFrame (station : Byte) (type : ExchangeType) (seqBit resync : Bool) (mode : BitVec 6) (payload : List Byte) :
    List Byte :=
  let body := station :: (type.code ||| flagByte seqBit <<< 3 ||| flagByte resync <<< 4) :: mode.setWidth 8 ::
    (leNat payload.length ++ payload)
  0x96#8 :: (body ++ leWord (trunkCheck body))

/-- The pattern of an ECHO_TEST (R3). -/
def echoPattern (seed : Byte) (length : Nat) : List Byte := (List.range length).map fun i => seed + byteOf i

/-- The number of positions in which an echo differs from its pattern (R70). -/
def mismatches (pattern got : List Byte) : Nat := ((pattern.zip got).filter fun (a, b) => a != b).length

end Sys2Proof.Machine
end

