-- ==== Sys2Proof/Machine/Ops.lean ====
section
/-! DEFINITION. The shared operations: field updates, the segment memory, the Order Table and node queues, the end of an order and
its posting, the entry into QUEUED, the interval counters, the changes of trunk state and the begin of a reset. -/

namespace Sys2Proof.Machine

open Sys2Proof

/-! ## Updates of one place -/

/-- A vector with one place changed. -/
def upd {α : Type} {n : Nat} (v : Vector α n) (i : Fin n) (f : α → α) : Vector α n := v.set i.val (f v[i]) i.isLt

def State.modHostLine (f : HostLine → HostLine) (s : State) : State := { s with hostLine := f s.hostLine }
def State.modTable (f : OrderTable → OrderTable) (s : State) : State := { s with table := f s.table }
def State.modPool (f : SegmentPool → SegmentPool) (s : State) : State := { s with pool := f s.pool }
def State.modNode (n : NodeId) (f : NodeRecord → NodeRecord) (s : State) : State := { s with nodes := upd s.nodes n f }
def State.modNodeSched (n : NodeId) (f : NodeSchedule → NodeSchedule) (s : State) : State :=
  { s with nodeScheds := upd s.nodeScheds n f }
def State.setHeld (n : NodeId) (h : Option HeldExchange) (s : State) : State := { s with held := upd s.held n fun _ => h }
def State.modSched (t : TrunkId) (f : Scheduler → Scheduler) (s : State) : State := { s with scheds := upd s.scheds t f }
def State.modEngine (t : TrunkId) (f : Engine → Engine) (s : State) : State := { s with engines := upd s.engines t f }
def State.modTrunk (t : TrunkId) (f : TrunkControl → TrunkControl) (s : State) : State := { s with trunks := upd s.trunks t f }
def State.modSupply (t : TrunkId) (f : SupplyMonitor → SupplyMonitor) (s : State) : State :=
  { s with supplies := upd s.supplies t f }
def State.modCompletions (f : CompletionQueue → CompletionQueue) (s : State) : State :=
  { s with completions := f s.completions }
def State.modMeter (t : TrunkId) (f : Meter → Meter) (s : State) : State := { s with meters := upd s.meters t f }
def State.modInterval (f : IntervalUnit → IntervalUnit) (s : State) : State := { s with interval := f s.interval }

/-- One operation on each of a list of things, in the list's order. -/
def forAll {α : Type} (f : α → State → State) (l : List α) (s : State) : State := l.foldl (fun s a => f a s) s

/-- The three trunks in order A, B, C. -/
def allTrunks : List TrunkId := [0, 1, 2]

/-! ## The segment memory (R29) -/

/-- What an address of the segment memory reads as when it is not listed: 0 (DESIGN CHOICE, log entry 9). -/
def Memory.unlisted : Byte := 0

/-- The byte at an address. -/
def Memory.read (m : List Host.Cell) (a : Nat) : Byte :=
  match m with
  | [] => Memory.unlisted
  | (b, v) :: rest => if b = a then v else Memory.read rest a

/-- The memory with one byte written: the list stays ascending, and a byte equal to the unlisted value leaves no entry. -/
def Memory.write (m : List Host.Cell) (a : Nat) (v : Byte) : List Host.Cell :=
  match m with
  | [] => if v = Memory.unlisted then [] else [(a, v)]
  | (b, w) :: rest =>
    if b < a then (b, w) :: Memory.write rest a v
    else if b = a then (if v = Memory.unlisted then rest else (a, v) :: rest)
    else if v = Memory.unlisted then (b, w) :: rest else (a, v) :: (b, w) :: rest

/-- The canonical form: addresses strictly rising and no entry equal to the unlisted value. -/
abbrev Memory.wf (m : List Host.Cell) : Prop :=
  m.Pairwise (fun c d => c.1 < d.1) ∧ ∀ c ∈ m, c.2 ≠ Memory.unlisted

/-- The address of a position of a segment. -/
def segmentAddress (g : SegId) (pos : Nat) : Nat := Config.segmentBytes * g.val + pos

/-! ## Segments (R29 to R33) -/

/-- The segment record of a number. -/
def SegmentPool.seg (p : SegmentPool) (g : SegId) : Segment := p.segs[g]

/-- A number inserted into the free list at its numbered place (R30). -/
def insertFree (g : SegId) : List SegId → List SegId
  | [] => [g]
  | h :: rest => if g < h then g :: h :: rest else if g = h then h :: rest else h :: insertFree g rest

/-- Freeing a segment (R30). -/
def SegmentPool.freeSegment (g : SegId) (p : SegmentPool) : SegmentPool :=
  { p with segs := upd p.segs g fun _ => ⟨.free, none, 0⟩, freeList := insertFree g p.freeList }

/-- Freeing several segments in one event (R30). -/
def SegmentPool.freeAll (l : List SegId) (p : SegmentPool) : SegmentPool := l.foldl (fun p g => p.freeSegment g) p

/-- Changing the owner of a segment that an order holds; a FREE segment has none (R29). -/
def SegmentPool.setOwner (o : Owner) (g : SegId) (p : SegmentPool) : SegmentPool :=
  { p with segs := upd p.segs g fun r => if r.owner = .free then r else { r with owner := o } }

/-- Allocation at submission (R31): the k lowest-numbered free segments, for this order and owner. -/
def SegmentPool.allocate (k : Nat) (tag : Byte) (o : Owner) (p : SegmentPool) : SegmentPool :=
  { p with
    segs := (p.freeList.take k).foldl (fun v g => upd v g fun _ => ⟨o, some tag, 0⟩) p.segs
    freeList := p.freeList.drop k }

/-- Whether a side reaches a segment's data for an order (R33): the owner and the order tag are tested. -/
def SegmentPool.reaches (p : SegmentPool) (side : Owner) (tag : Byte) (g : SegId) : Bool :=
  decide ((p.seg g).owner = side) && decide ((p.seg g).tag = some tag)

/-- Writing the next data byte of an order at a position of a segment, when the side reaches the segment (R33); the fill count
rises by one (R36). -/
def SegmentPool.writeByte (side : Owner) (tag : Byte) (g : SegId) (pos : Nat) (v : Byte) (p : SegmentPool) : SegmentPool :=
  if p.reaches side tag g then
    { p with mem := Memory.write p.mem (segmentAddress g pos) v, segs := upd p.segs g fun r => { r with fill := r.fill + 1 } }
  else p

/-- Writing data at consecutive data positions of an order (R32, R36). -/
def SegmentPool.writeData (side : Owner) (tag : Byte) (chain : List SegId) (offset : Nat) (data : List Byte)
    (p : SegmentPool) : SegmentPool :=
  match data with
  | [] => p
  | v :: rest =>
    let p' := match chain[offset / Config.segmentBytes]? with
      | some g => p.writeByte side tag g (offset % Config.segmentBytes) v
      | none => p
    p'.writeData side tag chain (offset + 1) rest

/-- Whether the byte at a data position of an order is reached by a side (R32, R33). -/
def SegmentPool.positionReached (p : SegmentPool) (side : Owner) (tag : Byte) (chain : List SegId) (pos : Nat) : Bool :=
  match chain[pos / Config.segmentBytes]? with
  | some g => p.reaches side tag g
  | none => false

/-- The byte at a data position of an order (R32). -/
def SegmentPool.dataByte (p : SegmentPool) (chain : List SegId) (pos : Nat) : Byte :=
  match chain[pos / Config.segmentBytes]? with
  | some g => Memory.read p.mem (segmentAddress g (pos % Config.segmentBytes))
  | none => Memory.unlisted

/-- The bytes at data positions offset to offset + count - 1, in rising order (R45). -/
def SegmentPool.readData (p : SegmentPool) (chain : List SegId) (offset count : Nat) : List Byte :=
  (List.range count).map fun i => p.dataByte chain (offset + i)

/-- The data bytes a segment holds, from its start to its fill count (R29). -/
def SegmentPool.segmentData (p : SegmentPool) (g : SegId) : List Byte :=
  (List.range (p.seg g).fill).map fun i => Memory.read p.mem (segmentAddress g i)

/-! ## Order entries (R1, R2) -/

/-- The live entries. -/
def OrderTable.live (t : OrderTable) : List Order := t.entries.toList.filterMap id

/-- The live entry that holds a tag (R2). -/
def OrderTable.find (t : OrderTable) (tag : Byte) : Option Order := t.live.find? fun o => o.tag = tag

/-- Whether some entry is FREE. -/
def OrderTable.hasFree (t : OrderTable) : Bool := t.entries.toList.any Option.isNone

/-- The live entry of a tag, changed. -/
def OrderTable.update (tag : Byte) (f : Order → Order) (t : OrderTable) : OrderTable :=
  { t with entries := t.entries.map (Option.map fun o => if o.tag = tag then f o else o) }

/-- The entry of a tag made FREE. -/
def OrderTable.release (tag : Byte) (t : OrderTable) : OrderTable :=
  { t with entries := t.entries.map fun e => e.filter fun o => o.tag ≠ tag }

/-- An order put into the lowest FREE entry (log entry 15). -/
def OrderTable.add (o : Order) (t : OrderTable) : OrderTable :=
  { t with entries := t.entries.setIfInBounds (t.entries.toList.findIdx Option.isNone) (some o) }

/-- The queue of a node (R7). -/
def OrderTable.queue (t : OrderTable) (n : NodeId) : List Byte := t.queues[n]

/-- The head order of a node's queue (R7). -/
def OrderTable.head (t : OrderTable) (n : NodeId) : Option Order :=
  match t.queue n with
  | [] => none
  | tag :: _ => t.find tag

/-- A state in which the order has not ended (R23). -/
def OrderState.unended : OrderState → Bool
  | .filling => true | .queued => true | .active => true
  | .ended => false | .parked => false

/-- Whether an exchange is in flight for an order (R1): its trunk's engine serves it. -/
def State.orderInFlight (s : State) (o : Order) : Bool :=
  match s.engines[trunkOf o.node].exch with
  | some x => decide (x.order = some o.tag)
  | none => false

/-- Whether a trunk's engine has an exchange in flight (R52). -/
def State.trunkInFlight (s : State) (t : TrunkId) : Bool := s.engines[t].exch.isSome

/-- The current backlog of a trunk: the QUEUED orders of its nodes (R123, R160). -/
def State.currentBacklog (s : State) (t : TrunkId) : Nat :=
  (s.table.live.filter fun o => decide (trunkOf o.node = t) && decide (o.state = .queued)).length

/-- The live orders of a trunk (R123). -/
def State.liveOrders (s : State) (t : TrunkId) : Nat := (s.table.live.filter fun o => decide (trunkOf o.node = t)).length

/-! ## Interval counters (R155) -/

/-- The counters of a trunk raised, unless the trunk is DISABLED (R155). -/
def State.count (t : TrunkId) (f : Counters → Counters) (s : State) : State :=
  if s.trunks[t].state = .disabled then s else s.modMeter t fun m => { m with counts := f m.counts }

/-- A 16-bit saturating sum (R155). -/
def satAdd (a b : Nat) : Nat := min Config.counterLimit (a + b)

/-- The order counters raised by one order's end (R155). -/
def Counters.orderEnd (r : Result) (c : Counters) : Counters :=
  match r with
  | .done => { c with ordersDone := satAdd c.ordersDone 1 }
  | _ => { c with ordersOther := satAdd c.ordersOther 1 }

/-! ## Posting (R129, R130) -/

/-- Posting the record at the head of the backlog, when the queue has room (R130). The record of an empty queue becomes its head,
with an age of 0, and so is not aged (R135). -/
def State.postHead (s : State) : State :=
  match s.table.backlog with
  | [] => s
  | r :: rest =>
    if s.completions.records.length < Config.completionRecords then
      let s := s.modCompletions fun q =>
        { q with records := q.records ++ [⟨r, s.interval.tick⟩], headAged := if q.records.isEmpty then false else q.headAged }
      let s := s.modTable fun t => { t with backlog := rest }
      let s :=
        if r.kind = .bulkFetch ∧ 0 < r.progress then
          s.modTable (OrderTable.update r.tag fun o => { o with state := .parked })
        else
          let chain := match s.table.find r.tag with | some o => o.chain | none => []
          (s.modPool (SegmentPool.freeAll chain)).modTable (OrderTable.release r.tag)
      s.takeCompletionsLevel
    else s

/-- Posting while the queue has room and the backlog is not empty: at most `n` records. -/
def State.post (n : Nat) (s : State) : State :=
  match n with
  | 0 => s
  | k + 1 => State.post k s.postHead

/-! ## Ending an order (R17) -/

/-- The progress an order ends with: 0 for an order that never started (R21, R24, R25), its progress otherwise. -/
def Order.endProgress (o : Order) : Nat :=
  match o.state with
  | .filling => 0
  | .queued => 0
  | _ => o.progress

/-- The completion record of an order that ends now (R126). -/
def Order.record (o : Order) (r : Result) (nak : Byte) (now : Word) : CompletionRecord where
  tag := o.tag
  node := o.node
  kind := o.kind
  result := r
  nakReason := nak
  progress := o.endProgress
  retries := o.retries
  endStamp := now
  data := if o.kind = .pointRead ∧ r = .done then o.inlineData else []

/-- What the end of a BULK_FETCH does to one segment of its chain (R43). -/
def SegmentPool.closeFetchSegment (g : SegId) (p : SegmentPool) : SegmentPool :=
  if (p.seg g).owner = .trunkSide then
    if (p.seg g).fill = 0 then p.freeSegment g else p.setOwner .hostSide g
  else p

/-- The segments of a fetch chain that stay with the order at its end (R43). -/
def SegmentPool.keptByFetch (p : SegmentPool) (chain : List SegId) : List SegId :=
  chain.filter fun g => !(decide ((p.seg g).owner = .trunkSide) && decide ((p.seg g).fill = 0))

/-- The held exchange of an order that ends without a further offering is discarded (R63). -/
def State.dropHeld (o : Order) (s : State) : State :=
  match s.held[o.node] with
  | some h => if h.tag = o.tag then s.setHeld o.node none else s
  | none => s

/-- Posting follows the end of an order in the same event, and BACKLOG is latched when its record has to wait (R129). -/
def State.postEnded (s : State) : State :=
  let s := State.post s.table.backlog.length s
  if s.table.backlog.isEmpty then s else s.latch .backlog

/-- The fields of an entry at the end of its order (R17). -/
def Order.ended (r : Result) (nak : Byte) (now : Word) (chain : List SegId) (o : Order) : Order :=
  { o with state := .ended, mark := none, result := some r, nakReason := nak, endStamp := now, progress := o.endProgress,
           chain := chain }

/-- The table at the end of an order (R17): the entry is ENDED, it leaves its node queue, its record joins the backlog's tail. -/
def OrderTable.endEntry (o : Order) (r : Result) (nak : Byte) (now : Word) (chain : List SegId) (t : OrderTable) : OrderTable :=
  { (t.update o.tag (Order.ended r nak now chain)) with
    queues := upd t.queues o.node fun q => q.filter (· ≠ o.tag)
    backlog := t.backlog ++ [o.record r nak now] }

/-- The segments at the end of an order (R40, R43): those of a fetch are closed, any other order keeps its chain. -/
def Order.chainAtEnd (o : Order) (p : SegmentPool) : List SegId :=
  if o.kind = .bulkFetch then p.keptByFetch o.chain else o.chain

def Order.closeSegments (o : Order) (p : SegmentPool) : SegmentPool :=
  if o.kind = .bulkFetch then o.chain.foldl (fun p g => p.closeFetchSegment g) p else p

/-- Ending one order (R17), with the posting that follows in the same event and the BACKLOG notice when its record has to wait
(R129). When one event ends several orders this is done for one after another (R18). -/
def State.endOrder (tag : Byte) (r : Result) (nak : Byte) (s : State) : State :=
  match s.table.find tag with
  | none => s
  | some o =>
    ((((s.dropHeld o).modPool o.closeSegments).modTable
      (OrderTable.endEntry o r nak s.interval.tick (o.chainAtEnd s.pool))).count
        (trunkOf o.node) (Counters.orderEnd r)).postEnded

/-- A claim that ends an order with this mark's result, or marks it while its exchange is in flight (R21, R24 to R26). The first
mark set stays. -/
def State.endOrMark (m : Mark) (tag : Byte) (s : State) : State :=
  match s.table.find tag with
  | none => s
  | some o =>
    match o.state with
    | .filling => s.endOrder tag m.result 0
    | .queued => s.endOrder tag m.result 0
    | .active =>
      if s.orderInFlight o then
        s.modTable (OrderTable.update tag fun o => { o with mark := if o.mark = none then some m else o.mark })
      else s.endOrder tag m.result 0
    | .ended => s
    | .parked => s

/-! ## Entering QUEUED (R8, R121, R160) -/

/-- The place of a new order in its node queue (R8): an URGENT one after the ACTIVE head and the URGENT orders, a ROUTINE one at
the tail. -/
def OrderTable.enqueue (o : Order) (t : OrderTable) : OrderTable :=
  let goesFirst (tag : Byte) : Bool :=
    match t.find tag with
    | some q => decide (q.state = .active) || decide (q.cls = .urgent)
    | none => false
  { t with queues := upd t.queues o.node fun q =>
      match o.cls with
      | .urgent => q.takeWhile goesFirst ++ o.tag :: q.dropWhile goesFirst
      | .routine => q ++ [o.tag] }

/-- A QUIET trunk returns to ACTIVE with its idle-interval count at 0 (R121). -/
def State.wake (t : TrunkId) (s : State) : State :=
  if s.trunks[t].state = .quiet then s.modTrunk t fun c => { c with state := .active, wait := .none, idleCount := 0 } else s

/-- The peak backlog follows a current backlog that has risen above it (R160). -/
def State.raisePeak (t : TrunkId) (s : State) : State :=
  s.modMeter t fun m => { m with peak := max m.peak (s.currentBacklog t) }

/-- An order of the table enters QUEUED: its place in the queue, the report to its trunk's engine, the peak backlog. -/
def State.enterQueued (tag : Byte) (s : State) : State :=
  let s := s.modTable (OrderTable.update tag fun o => { o with state := .queued })
  match s.table.find tag with
  | none => s
  | some o => ((s.modTable (OrderTable.enqueue o)).wake (trunkOf o.node)).raisePeak (trunkOf o.node)

/-! ## Changes of trunk state (R77, R99, R113) -/

/-- The scheduler clears the announce flag and the trunk's busy backoffs (R77). -/
def State.clearBackoffs (t : TrunkId) (s : State) : State :=
  forAll (fun n => State.modNodeSched n fun g => { g with expiry := none, inForce := false }) (trunkNodes t)
    (s.modSched t fun g => { g with announce := false })

/-- A trunk enters DISABLED (R113, with R77, R120, R156 and R159). -/
def State.enterDisabled (t : TrunkId) (s : State) : State :=
  let s := s.modSupply t fun m => SupplyMonitor.reset m.senseGood
  let s := s.modTrunk t fun c => { c with state := .disabled, wait := .none, orderExchange := false }
  let s := s.modEngine t fun _ => Engine.reset
  let s := s.clearBackoffs t
  s.modMeter t fun m => { m with counts := .zero, wasDown := false, wasQuiet := false, severe := 0 }

/-- A trunk enters ACTIVE from DISABLED or DOWN (R77, R78, R99, R110, R117). -/
def State.enterActive (t : TrunkId) (w : WaitIndication) (s : State) : State :=
  let s := s.modTrunk t fun c => { c with state := .active, wait := w, idleCount := 0 }
  let s := s.modSched t fun g =>
    { g with ptrU := 7, ptrR := 7, ptrP := 7, passR := 0, passP := 0, announce := decide (s.trunks[t].mode ≠ 63) }
  forAll (fun n => State.modNode n fun r => { r with state := if r.state = .online then .unseen else r.state })
    (trunkNodes t) s

/-- Every order of a trunk's node queues, nodes ascending and head first (R18). -/
def State.trunkQueueTags (s : State) (t : TrunkId) : List Byte := (trunkNodes t).flatMap fun n => s.table.queue n

/-! ## The begin of a reset (R177, R178) -/

/-- A reset of a kind begins: its cause is recorded, its condition is held, and every operation under way is cut off (R177,
R178; log entry 11). The other blocks take their reset values at the release. -/
def State.beginReset (k : ResetKind) (s : State) : State :=
  { s with
    startUp := { s.startUp with
      part := .inReset
      cause := k
      heldPowerOn := s.startUp.heldPowerOn || decide (k = .powerOn)
      heldPin := s.startUp.heldPin || decide (k = .pin)
      heldLineHold := s.startUp.heldLineHold || decide (k = .lineHold) }
    hostLine := { s.hostLine with
      receiver := .hunting, buffer := [], gapTimer := false, lineHold := false, reply := none, replyErrorCounted := false,
      htx := none }
    engines := Vector.replicate 3 Engine.reset
    supplies := s.supplies.map fun m => SupplyMonitor.reset m.senseGood
    notices := { s.notices with attn := false }
    claims := [] }

end Sys2Proof.Machine
end

