-- ==== Sys2Proof/Machine/Exchanges.lean ====
section
/-! DEFINITION. Trunk exchanges (chapter 3): building a frame, starting an exchange, classifying a reply, attempts, and the end of
an exchange with everything its outcome does (R71, R72). -/

namespace Sys2Proof.Machine

open Sys2Proof

/-! ## Starting an exchange (R50 to R53, R61, R63) -/

/-- The request payload of an order's next exchange (R50). -/
def State.orderPayload (s : State) (o : Order) : List Byte :=
  match o.kind with
  | .pointRead => leWord (o.point.getD 0) ++ [byteOf o.length]
  | .pointWrite => leWord (o.point.getD 0) ++ o.inlineData
  | .bulkSend =>
    leNat o.progress ++ leNat o.length ++
      (match o.chain with
       | g :: _ => if s.pool.reaches .trunkSide o.tag g then s.pool.segmentData g else []
       | [] => [])
  | .bulkFetch => leNat o.progress ++ leNat (min Config.segmentBytes (o.length - o.progress))
  | .echoTest => echoPattern (o.seed.getD 0) o.length
  | .nodeReset => []

/-- Whether a new frame to a node carries RESYNC (R61). -/
def NodeRecord.needsResync (r : NodeRecord) : Bool := decide (r.state = .unseen) || decide (0 < r.consecutive)

/-- The record of a new exchange with a node, built from the state at its first offering (R51, R52, R61). -/
def State.newExchange (s : State) (n : NodeId) (type : ExchangeType) (order : Option Byte) (payload : List Byte) : Exchange :=
  let r := s.nodes[n]
  let mode := s.trunks[trunkOf n].mode
  { node := some n, type := type, order := order, seqBit := r.seqBit, resync := r.needsResync, mode := mode,
    attempts := 0, retriesSent := 0, busyCount := 0, single := decide (type = .poll) && decide (r.state = .unseen),
    noStart := 0, broken := 0, stray := 0,
    frame := trunkFrame (stationOf n) type r.seqBit r.needsResync mode payload }

/-- A held exchange taken back for a further offering: its frame is the one it was built with, the retries start at 0 (R51, R63). -/
def HeldExchange.resume (h : HeldExchange) (n : NodeId) (payload : List Byte) : Exchange where
  node := some n
  type := h.type
  order := some h.tag
  seqBit := h.seqBit
  resync := h.resync
  mode := h.mode
  attempts := h.attempts
  retriesSent := 0
  busyCount := h.busyCount
  single := false
  noStart := 0
  broken := 0
  stray := 0
  frame := trunkFrame (stationOf n) h.type h.seqBit h.resync h.mode payload

/-- The record of an ANNOUNCE (R69). -/
def State.announceExchange (s : State) (t : TrunkId) : Exchange :=
  let mode := s.trunks[t].mode
  { node := none, type := .announce, order := none, seqBit := false, resync := false, mode := mode,
    attempts := 0, retriesSent := 0, busyCount := 0, single := false, noStart := 0, broken := 0, stray := 0,
    frame := trunkFrame 0 .announce false false mode [] }

/-- The engine begins the first byte of an exchange's frame (R53). -/
def State.beginExchange (t : TrunkId) (x : Exchange) (g : Grant) (s : State) : State :=
  s.modEngine t fun e =>
    { e with phase := .sending, exch := some x, grant := some g, rx := [], rxFault := false, guardTimes := 0 }

/-- The next exchange of a node's head order starts under a grant with this burst count (R10, R53, R87, R120). -/
def State.startOrderExchange (n : NodeId) (o : Order) (burst : Nat) (s : State) : State :=
  let payload := s.orderPayload o
  let x := match s.held[n] with
    | some h => if h.tag = o.tag then h.resume n payload else s.newExchange n o.kind.exchangeType (some o.tag) payload
    | none => s.newExchange n o.kind.exchangeType (some o.tag) payload
  let s := s.dropHeld o
  let s := s.modTable (OrderTable.update o.tag fun o => { o with state := .active })
  let s := s.modTrunk (trunkOf n) fun c => { c with orderExchange := true }
  s.beginExchange (trunkOf n) x ⟨.order, some n, some o.tag, burst, false⟩

/-- A POLL of a node starts (R50, R87). -/
def State.startPoll (n : NodeId) (s : State) : State :=
  s.beginExchange (trunkOf n) (s.newExchange n .poll none []) ⟨.poll, some n, none, 1, false⟩

/-- An ANNOUNCE starts, and the pending-announce flag is cleared in the same event (R69, R78). -/
def State.startAnnounce (t : TrunkId) (s : State) : State :=
  (s.modSched t fun g => { g with announce := false }).beginExchange t (s.announceExchange t) ⟨.announce, none, none, 1, false⟩

/-! ## Classifying a reply (R56 to R58) -/

/-- The reply types of 3.2. -/
inductive ReplyType where
  | ack | nak | busy
  deriving DecidableEq, Repr

/-- What a GOOD reply carries. -/
structure GoodReply where
  type : ReplyType
  attention : Byte
  payload : List Byte
  deriving DecidableEq, Repr

/-- The classifications of an attempt (3.5). -/
inductive ReplyClass where
  | noStart | broken | stray
  | good (r : GoodReply)
  deriving DecidableEq, Repr

/-- The payload length field of a frame's bytes (3.2). -/
def payloadLength (bs : List Byte) : Nat := (wordAt bs 4).toNat

/-- Whether an ACK's payload length is the one its exchange allows (R58). -/
def ackLengthOk (type : ExchangeType) (asked length : Nat) : Bool :=
  match type with
  | .poll => decide (length = 0)
  | .get => decide (length = asked)
  | .put => decide (length = 0)
  | .sendBlock => decide (length = 0)
  | .fetchBlock => decide (length ≤ asked)
  | .echo => decide (length = asked)
  | .resetNode => decide (length = 0)
  | .announce => false

/-- The bytes an order's present exchange asks for: the count of a GET or FETCH_BLOCK, the pattern length of an ECHO (R50). -/
def Order.asked (o : Order) : Nat :=
  match o.kind with
  | .bulkFetch => min Config.segmentBytes (o.length - o.progress)
  | _ => o.length

/-- The count asked by the exchange in flight. -/
def State.askedBy (s : State) (x : Exchange) : Nat :=
  match x.order with
  | some tag => match s.table.find tag with | some o => o.asked | none => 0
  | none => 0

/-- The station address an exchange was sent to. -/
def Exchange.station (x : Exchange) : Byte := match x.node with | some n => stationOf n | none => 0

/-- The classification of a reply whose frame is complete and free of framing errors (R56 to R58). -/
def classify (x : Exchange) (asked : Nat) (bs : List Byte) : ReplyClass :=
  let length := payloadLength bs
  let payload := (bs.drop 6).take length
  if byteAt bs 0 ≠ 0x69 ∨ length > Config.trunkPayloadLimit then .broken
  else if trunkCheck ((bs.drop 1).take (5 + length)) ≠ wordAt bs (6 + length) then .broken
  else if byteAt bs 1 ≠ x.station ∨ (byteAt bs 2).getLsbD 3 ≠ x.seqBit then .stray
  else if (byteAt bs 3).toNat > 127 then .broken
  else
    match ((byteAt bs 2).setWidth 2).toNat with
    | 0 => .broken
    | 1 => if ackLengthOk x.type asked length then .good ⟨.ack, byteAt bs 3, payload⟩ else .broken
    | 2 => if length = 1 then .good ⟨.nak, byteAt bs 3, payload⟩ else .broken
    | _ => if length = 0 then .good ⟨.busy, byteAt bs 3, payload⟩ else .broken

/-! ## The end of an exchange -/

/-- How an exchange with a node ended (R71). -/
inductive Ending where
  | ack (payload : List Byte)
  | nak (reason : Byte)
  | busy
  | failure
  deriving DecidableEq, Repr

/-- The ending a GOOD reply gives. -/
def GoodReply.ending (r : GoodReply) : Ending :=
  match r.type with
  | .ack => .ack r.payload
  | .nak => .nak (byteAt r.payload 0)
  | .busy => .busy

/-- The bytes an exchange moved (R72). -/
def State.bytesMoved (s : State) (x : Exchange) (e : Ending) : Nat :=
  match e, x.order with
  | .ack payload, some tag =>
    match s.table.find tag with
    | none => 0
    | some o =>
      match o.kind with
      | .bulkSend => match o.chain with | g :: _ => (s.pool.seg g).fill | [] => 0
      | .bulkFetch => payload.length
      | .pointRead => o.length
      | .pointWrite => o.length
      | .echoTest => o.length
      | .nodeReset => 0
  | _, _ => 0

/-- The counts of one exchange handed to the Interval Unit at its end (R72). -/
def Counters.exchangeEnd (x : Exchange) (e : Ending) (moved : Nat) (c : Counters) : Counters :=
  { c with
    started := satAdd c.started 1
    good := satAdd c.good (match e with | .failure => 0 | _ => 1)
    noStart := satAdd c.noStart x.noStart
    broken := satAdd c.broken x.broken
    stray := satAdd c.stray x.stray
    busy := satAdd c.busy (match e with | .busy => 1 | _ => 0)
    retries := satAdd c.retries x.retriesSent
    bytesMoved := min Config.bytesLimit (c.bytesMoved + moved) }

/-- The counts of an exchange aborted by a supply fault (R72). -/
def Counters.aborted (x : Exchange) (c : Counters) : Counters :=
  { c with
    started := satAdd c.started 1
    noStart := satAdd c.noStart x.noStart
    broken := satAdd c.broken x.broken
    stray := satAdd c.stray x.stray
    retries := satAdd c.retries x.retriesSent }

/-- An order whose exchange did not complete it: its pending mark ends it, or it goes on with `otherwise` (R16). -/
def State.endByMarkOr (tag : Byte) (otherwise : State → State) (s : State) : State :=
  match s.table.find tag with
  | some o => match o.mark with | some m => s.endOrder tag m.result 0 | none => otherwise s
  | none => s

/-- What a GOOD ACK does to the order it serves (R13, with R39, R41, R42 for the bulk kinds). -/
def State.orderAck (o : Order) (payload : List Byte) (s : State) : State :=
  let put (f : Order → Order) (s : State) : State := s.modTable (OrderTable.update o.tag f)
  match o.kind with
  | .pointRead => (put (fun o => { o with inlineData := payload, progress := o.length }) s).endOrder o.tag .done 0
  | .pointWrite => (put (fun o => { o with progress := o.length }) s).endOrder o.tag .done 0
  | .bulkSend =>
    match o.chain with
    | [] => s
    | g :: rest =>
      let progress := o.progress + (s.pool.seg g).fill
      let s := put (fun o => { o with progress := progress, chain := rest }) (s.modPool (SegmentPool.freeSegment g))
      if o.length ≤ progress then s.endOrder o.tag .done 0 else s.endByMarkOr o.tag id
  | .bulkFetch =>
    let progress := o.progress + payload.length
    let s := s.modPool (SegmentPool.writeData .trunkSide o.tag o.chain o.progress payload)
    let s :=
      match o.chain[o.progress / Config.segmentBytes]? with
      | some g => if payload.length = Config.segmentBytes then s.modPool (SegmentPool.setOwner .hostSide g) else s
      | none => s
    let s := put (fun o => { o with progress := progress }) s
    if o.length ≤ progress ∨ payload.length < o.asked then s.endOrder o.tag .done 0 else s.endByMarkOr o.tag id
  | .echoTest =>
    let m := mismatches (echoPattern (o.seed.getD 0) o.length) payload
    if m = 0 then (put (fun o => { o with progress := o.length }) s).endOrder o.tag .done 0
    else (put (fun o => { o with progress := m }) s).endOrder o.tag .echoMismatch 0
  | .nodeReset => s.endOrder o.tag .done 0

/-- The retries of an exchange added to those of its order (R12). -/
def Order.addRetries (n : Nat) (o : Order) : Order := { o with retries := min Config.byteLimit (o.retries + n) }

/-- The Order Manager takes the outcome of an exchange (R12 to R16), and the engine keeps a held exchange after a BUSY that did
not end the order (R62, R63). -/
def State.orderOutcome (x : Exchange) (e : Ending) (s : State) : State :=
  match x.order with
  | none => s
  | some tag =>
    let s := s.modTable (OrderTable.update tag (Order.addRetries x.retriesSent))
    match s.table.find tag with
    | none => s
    | some o =>
      match e with
      | .ack payload => s.orderAck o payload
      | .nak reason => s.endByMarkOr tag fun s => s.endOrder tag .nodeRejected reason
      | .busy => s.endByMarkOr tag fun s =>
          if Config.busyLimit ≤ x.busyCount + 1 then s.endOrder tag .nodeBusy 0
          else s.setHeld o.node (some ⟨tag, x.type, x.seqBit, x.resync, x.mode, x.attempts, x.busyCount + 1⟩)
      | .failure => s.endByMarkOr tag fun s => s.endOrder tag .noReply 0

/-- The orders of an isolated node that are QUEUED end NODE_ISOLATED, in queue order (R25, R96). -/
def State.endIsolated (tag : Byte) (s : State) : State :=
  match s.table.find tag with
  | some o => if o.state = .queued then s.endOrder tag .nodeIsolated 0 else s
  | none => s

/-- The isolation test after a counted failure, and the isolation (R96). -/
def State.isolationTest (n : NodeId) (s : State) : State :=
  let r := s.nodes[n]
  if s.trunks[trunkOf n].config.isolation ≤ r.consecutive ∧ (r.state = .unseen ∨ r.state = .online) then
    let s := s.modNode n fun r => { r with state := .isolated }
    let s := forAll State.endIsolated (s.table.queue n) s
    (s.latch .nodeIsolated).count (trunkOf n) fun c => { c with isolations := satAdd c.isolations 1 }
  else s

/-- The node record after a GOOD reply (R94, R98). -/
def NodeRecord.good (reset flips : Bool) (now : Word) (r : NodeRecord) : NodeRecord :=
  { r with
    seqBit := if flips then !r.seqBit else r.seqBit
    lastExchange := now
    consecutive := 0
    state :=
      match r.state with
      | .unseen => if reset then .unseen else .online
      | .online => if reset then .unseen else .online
      | .disabled => .disabled
      | .isolated => .isolated }

/-- The poll-due indication is cleared when the last-exchange tick is set (R81). -/
def NodeSchedule.reached (g : NodeSchedule) : NodeSchedule := { g with pollDue := false }

/-- The Node Table takes the outcome of an exchange (R94 to R98); the last-exchange tick also clears the poll-due indication
(R81). A NAK to a RESET_NODE makes an UNSEEN node ONLINE, as R98 and R94 say, although R67 has it leave the node's state as it was
(DESIGN CHOICE, log entry 29). -/
def State.nodeOutcome (n : NodeId) (x : Exchange) (e : Ending) (s : State) : State :=
  let now := s.interval.tick
  let s := s.modNodeSched n NodeSchedule.reached
  match e with
  | .ack _ => s.modNode n (NodeRecord.good (decide (x.type = .resetNode)) true now)
  | .nak _ => s.modNode n (NodeRecord.good false true now)
  | .busy => s.modNode n (NodeRecord.good false false now)
  | .failure =>
    if x.single then s.modNode n fun r => { r with lastExchange := now }
    else
      (s.modNode n fun r =>
        { r with
          lastExchange := now
          consecutive := min 7 (r.consecutive + 1)
          total := satAdd r.total 1 }).isolationTest n

/-- The Grant Scheduler takes the busy backoff of a BUSY (R80). -/
def State.schedulerOutcome (n : NodeId) (e : Ending) (s : State) : State :=
  match e with
  | .busy => s.modNodeSched n fun g =>
      { g with expiry := some (s.interval.tick + BitVec.ofNat 16 Config.backoffTicks), inForce := true }
  | _ => s

/-- An attention entry after a further reply with attention (R138). -/
def AttentionEntry.renew (code : Byte) (e : AttentionEntry) : AttentionEntry :=
  { e with code := code, repeats := min Config.byteLimit (e.repeats + 1), renewed := e.seen || e.renewed }

/-- The Attention List takes a code (R138). -/
def takeAttention (n : NodeId) (code : Byte) (l : List AttentionEntry) : List AttentionEntry :=
  if l.any (fun e => e.node = n) then l.map fun e => if e.node = n then e.renew code else e
  else l ++ [⟨n, code, 0, false, false⟩]

/-- The Attention List and the trunk state take a GOOD reply's attention code (R71, R121, R138, R142). -/
def State.attentionOutcome (n : NodeId) (code : Byte) (s : State) : State :=
  if code = 0 then s
  else (({ s with attention := takeAttention n code s.attention }).takeAttentionLevel).wake (trunkOf n)

/-- Whether an ending is a GOOD ACK. -/
def Ending.isAck : Ending → Bool
  | .ack _ => true
  | .nak _ => false | .busy => false | .failure => false

/-- The engine at the end of an exchange with a node (R52, R59, R88): no record, a guard of 2 byte times, and the grant knows whether
the ending was a GOOD ACK. -/
def Engine.exchangeEnded (ack : Bool) (g : Engine) : Engine :=
  { g with phase := .guard, exch := none, rx := [], rxFault := false, guardTimes := 2,
           grant := g.grant.map fun r => { r with ackEnded := ack } }

/-- The outcome of an exchange taken by the blocks (R71, R72): the counts, the engine, the Order Manager, the Node Table, the
scheduler, the Attention List. -/
def State.takeOutcome (t : TrunkId) (n : NodeId) (x : Exchange) (e : Ending) (attention : Byte) (s : State) : State :=
  (((((s.count t (Counters.exchangeEnd x e (s.bytesMoved x e))).modEngine t (Engine.exchangeEnded e.isAck)).orderOutcome
    x e).nodeOutcome n x e).schedulerOutcome n e).attentionOutcome n attention

/-- The end of an exchange that serves a node, with its whole outcome (R71), then the guard, or the entry to DISABLED of a STOPPING
trunk (R112). -/
def State.exchangeEnd (t : TrunkId) (n : NodeId) (x : Exchange) (e : Ending) (attention : Byte) (s : State) : State :=
  let s := s.takeOutcome t n x e attention
  if s.trunks[t].state = .stopping then s.enterDisabled t else s

/-- The attempts an exchange is allowed (R60). -/
def State.allowedAttempts (s : State) (t : TrunkId) (x : Exchange) : Nat :=
  if x.single then 1 else s.trunks[t].config.retryLimit + 1

/-- The record after an attempt without a usable reply: the attempt is used up, classified, and the BUSY count returns to 0 (R60,
R62). -/
def Exchange.failedAttempt (c : ReplyClass) (x : Exchange) : Exchange :=
  { x with
    attempts := x.attempts + 1
    busyCount := 0
    noStart := x.noStart + (if c = .noStart then 1 else 0)
    broken := x.broken + (if c = .broken then 1 else 0)
    stray := x.stray + (if c = .stray then 1 else 0) }

/-- The classification of an attempt of the exchange in flight on a trunk (R60, R62): a GOOD reply ends the exchange; another
class leads to a retry after the guard, or uses up the attempts and ends it in failure. -/
def State.attemptEnd (t : TrunkId) (x : Exchange) (c : ReplyClass) (s : State) : State :=
  match x.node with
  | none => s
  | some n =>
    match c with
    | .good r => s.exchangeEnd t n x r.ending r.attention
    | _ =>
      let y := x.failedAttempt c
      if y.attempts < s.allowedAttempts t x then
        s.modEngine t fun e => { e with phase := .guard, exch := some y, rx := [], rxFault := false, guardTimes := 2 }
      else s.exchangeEnd t n y .failure 0

/-- The exchange in flight on a trunk is aborted by a supply fault (R73): its counts are handed on (R72), the engine is IDLE, the
held exchanges of the trunk are discarded. -/
def State.abortExchange (t : TrunkId) (s : State) : State :=
  let s :=
    match s.engines[t].exch with
    | some x => if x.node.isSome then s.count t (Counters.aborted x) else s
    | none => s
  let s := s.modEngine t fun _ => Engine.reset
  forAll (fun n => State.setHeld n none) (trunkNodes t) s

end Sys2Proof.Machine
end

