-- ==== Sys2Proof/Machine/Scheduling.lean ====
section
/-! DEFINITION. Grant scheduling (chapter 4): candidates, the choice at a trunk-free event, the pass-over counts, the grant and
the continuation of a burst. -/

namespace Sys2Proof.Machine

open Sys2Proof

/-! ## Candidates (R79, R81 to R83) -/

/-- A node state in which the node is offered and polled (R93). -/
def NodeState.inService : NodeState → Bool
  | .unseen => true | .online => true
  | .disabled => false | .isolated => false

/-- The head order of an offerable node (R79); none when the node is not offerable. -/
def State.offered (s : State) (n : NodeId) : Option Order :=
  if s.nodes[n].state.inService && !s.nodeScheds[n].inForce then
    match s.table.head n with
    | some o =>
      match o.state with
      | .queued => some o
      | .active => if s.orderInFlight o then none else some o
      | _ => none
    | none => none
  else none

/-- A node is a candidate of group U or R: it is offerable with a head of that class (R79, R83). -/
def State.offerable (s : State) (c : OrderClass) (n : NodeId) : Bool :=
  match s.offered n with
  | some o => decide (o.cls = c)
  | none => false

/-- A node is due for a poll (R82). -/
def State.dueForPoll (s : State) (n : NodeId) : Bool :=
  s.nodes[n].state.inService && (s.table.queue n).isEmpty && !s.nodeScheds[n].inForce && s.nodeScheds[n].pollDue

/-- The effective poll period of a trunk (R81). A period written while the trunk is DISABLED holds at once, as R81 says, although R119
has a new value act from the next enabling on (DESIGN CHOICE, log entry 31). -/
def TrunkControl.effectivePoll (c : TrunkControl) : Nat :=
  if c.state = .quiet then 8 * c.config.pollPeriod else c.config.pollPeriod

/-- The groups of R83. -/
inductive Group where
  | announce | urgent | routine | poll
  deriving DecidableEq, Repr

/-- Whether a node is a candidate of a group. -/
def State.candidate (s : State) (g : Group) (n : NodeId) : Bool :=
  match g with
  | .announce => false
  | .urgent => s.offerable .urgent n
  | .routine => s.offerable .routine n
  | .poll => s.dueForPoll n

/-- Whether a group of a trunk has a candidate (R83). -/
def State.hasCandidate (s : State) (t : TrunkId) (g : Group) : Bool :=
  match g with
  | .announce => s.scheds[t].announce
  | g => (trunkNodes t).any (s.candidate g)

/-! ## The choice (R84 to R86) -/

/-- The group served (R84); none when no group has a candidate. -/
def State.groupServed (s : State) (t : TrunkId) : Option Group :=
  let limit := s.trunks[t].config.guardLimit
  if s.hasCandidate t .announce then some .announce
  else if limit ≤ s.scheds[t].passR ∧ s.hasCandidate t .routine then some .routine
  else if limit ≤ s.scheds[t].passP ∧ s.hasCandidate t .poll then some .poll
  else if s.hasCandidate t .urgent then some .urgent
  else if s.hasCandidate t .routine then some .routine
  else if s.hasCandidate t .poll then some .poll
  else none

/-- The places of a trunk in rotation, starting after a pointer and ending with its own (R85). -/
def rotation (ptr : Fin 8) : List (Fin 8) := [ptr + 1, ptr + 2, ptr + 3, ptr + 4, ptr + 5, ptr + 6, ptr + 7, ptr]

/-- The rotation pointer of a group. -/
def Scheduler.pointer (g : Group) (c : Scheduler) : Fin 8 :=
  match g with
  | .urgent => c.ptrU | .routine => c.ptrR | .poll => c.ptrP | .announce => 0

/-- The rotation pointer of a group set. -/
def Scheduler.setPointer (g : Group) (k : Fin 8) (c : Scheduler) : Scheduler :=
  match g with
  | .urgent => { c with ptrU := k } | .routine => { c with ptrR := k } | .poll => { c with ptrP := k } | .announce => c

/-- The rotate flag of a group (R85). -/
def TrunkConfig.rotates (g : Group) (c : TrunkConfig) : Bool :=
  match g with
  | .urgent => c.rotateU | .routine => c.rotateR | .poll => c.rotateP | .announce => false

/-- The place chosen within a group (R85). -/
def State.placeChosen (s : State) (t : TrunkId) (g : Group) : Option (Fin 8) :=
  (if s.trunks[t].config.rotates g then rotation (s.scheds[t].pointer g) else allSlots).find?
    fun k => s.candidate g (nodeAt t k)

/-- The precedence of a group (R83): a lower number is served first. -/
def Group.rank : Group → Nat
  | .announce => 0 | .urgent => 1 | .routine => 2 | .poll => 3

/-- The new pass-over count of a group (R86), from its old count, whether it had a candidate, and the group served. -/
def passOver (limit old : Nat) (hadCandidate : Bool) (g served : Group) : Nat :=
  if served = g then 0
  else if !hadCandidate then 0
  else if served.rank < g.rank then min limit (old + 1)
  else old

/-- The pass-over counts updated at a grant, from the candidates before it (R86). -/
def State.updatePassOver (t : TrunkId) (served : Group) (s : State) : State :=
  let limit := s.trunks[t].config.guardLimit
  let hadR := s.hasCandidate t .routine
  let hadP := s.hasCandidate t .poll
  s.modSched t fun c =>
    { c with passR := passOver limit c.passR hadR .routine served, passP := passOver limit c.passP hadP .poll served }

/-- The grant for a node of a group starts its exchange (R87). -/
def State.startFor (g : Group) (n : NodeId) (s : State) : State :=
  match g with
  | .announce => s
  | .urgent => match s.table.head n with | some o => s.startOrderExchange n o 1 | none => s
  | .routine => match s.table.head n with | some o => s.startOrderExchange n o 1 | none => s
  | .poll => s.startPoll n

/-- The conditions of a trunk-free event but the last: the trunk may take a grant (R76, R77). -/
def State.isFree (s : State) (t : TrunkId) : Bool :=
  decide (s.startUp.part = .ready) &&
  (decide (s.trunks[t].state = .active) || decide (s.trunks[t].state = .quiet)) &&
  decide (s.trunks[t].wait ≠ .settle) &&
  decide (s.engines[t].phase = .idle) && s.engines[t].exch.isNone

/-- The trunk-free event of a trunk, if its conditions hold (R76): the choice, the counts, the grant and the exchange start, all in
one event. -/
def State.trunkFree (t : TrunkId) (s : State) : State :=
  if s.isFree t then
    match s.groupServed t with
    | none => s
    | some .announce => (s.updatePassOver t .announce).startAnnounce t
    | some g =>
      match s.placeChosen t g with
      | none => s
      | some k =>
        let s := s.updatePassOver t g
        let s := if s.trunks[t].config.rotates g then s.modSched t (Scheduler.setPointer g k) else s
        s.startFor g (nodeAt t k)
  else s

/-- The trunk-free events that an event on all three trunks may complete; they do not depend on one another. -/
def State.trunksFree (s : State) : State := forAll State.trunkFree allTrunks s

/-! ## Bursts (R88, R89) -/

/-- The order whose burst continues at the end of a guard (R88); none when the burst, if there is one, ends. -/
def State.burstOrder (s : State) (t : TrunkId) : Option (NodeId × Order × Nat) :=
  match s.engines[t].grant with
  | some g =>
    match g.kind, g.node with
    | .order, some n =>
      match s.offered n with
      | some o =>
        if trunkOf n = t ∧ g.tag = some o.tag ∧ o.kind.isBulk ∧ o.state = .active ∧ o.mark = none ∧ g.ackEnded ∧
            g.burst < s.trunks[t].config.burstLimit ∧ (s.trunks[t].state = .active ∨ s.trunks[t].state = .quiet) then
          some (n, o, g.burst + 1)
        else none
      | none => none
    | _, _ => none
  | none => none

/-- The engine becomes IDLE at the end of a guard, its grant record is discarded, and a trunk-free event may follow (R59, R87,
R89). -/
def State.becomeIdle (t : TrunkId) (s : State) : State :=
  (s.modEngine t fun e => { e with phase := .idle, exch := none, grant := none, guardTimes := 0 }).trunkFree t

/-- The end of the guard on a trunk (R59): the retry that is due, the continuation of a burst, or IDLE. -/
def State.guardEnd (t : TrunkId) (s : State) : State :=
  match s.engines[t].exch with
  | some x =>
    s.modEngine t fun e =>
      { e with phase := .sending, exch := some { x with retriesSent := x.retriesSent + 1 }, rx := [], rxFault := false,
               guardTimes := 0 }
  | none =>
    match s.burstOrder t with
    | some (n, o, burst) => s.startOrderExchange n o burst
    | none => s.becomeIdle t

end Sys2Proof.Machine
end

