-- ==== Sys2Proof/Machine/Intervals.lean ====
section
/-! DEFINITION. The interval end (chapter 9 with R78 and R120) and the claims of a tick event (R151). -/

namespace Sys2Proof.Machine

open Sys2Proof

/-! ## The reports (R157 to R161) -/

/-- The fault class of a report's counters (R158). -/
def faultClass (c : Counters) : Nat :=
  let n := c.noStart + c.broken + c.stray
  if n = 0 then 0 else if n = 1 then 1 else if n ≤ 5 then 2 else if n ≤ 20 then 3 else if n ≤ 100 then 4 else 5

/-- The consecutive-severe count after a report of a class (R159). -/
def severeAfter (faultClass old : Nat) : Nat := if 4 ≤ faultClass then min Config.byteLimit (old + 1) else 0

/-- The report built for a trunk at an interval end (R157). -/
def State.buildReport (s : State) (t : TrunkId) (short : Bool) (span : Nat) : Report :=
  let m := s.meters[t]
  { sequence := m.sequence, state := s.trunks[t].state, wasDown := m.wasDown, wasQuiet := m.wasQuiet, short := short,
    faultClass := faultClass m.counts, severe := severeAfter (faultClass m.counts) m.severe, peak := m.peak,
    endStamp := s.interval.tick, span := span, counts := m.counts }

/-- One trunk's report built and stored, with the renewals of R157 and the notices of R157 and R159. -/
def State.reportTrunk (short : Bool) (span : Nat) (t : TrunkId) (s : State) : State :=
  if s.trunks[t].state = .disabled then s
  else
    let r := s.buildReport t short span
    let c := s.trunks[t].config
    let backlog := s.currentBacklog t
    let limitMet := decide (r.severe = c.degradeLimit) && decide (c.degradeLimit ≠ 0) && decide (r.severe ≠ s.meters[t].severe)
    let s := s.modMeter t fun m =>
      { m with
        counts := .zero
        severe := r.severe
        peak := match c.peakMode with | .interval => backlog | .held => m.peak
        ring := (r :: m.ring).take Config.reportsPerTrunk
        sequence := m.sequence + 1 }
    let s := s.latch .reportReady
    if limitMet then s.latch .trunkDegraded else s

/-- Whether no node of a trunk holds a QUEUED or ACTIVE order (R120). -/
def State.trunkEmpty (s : State) (t : TrunkId) : Bool := (trunkNodes t).all fun n => (s.table.queue n).isEmpty

/-- The idle-interval count and quiet entry of one trunk at an interval end (R120); the order-exchange indication is cleared. -/
def State.idleUpdate (t : TrunkId) (s : State) : State :=
  let counted (c : TrunkControl) : Bool :=
    (decide (c.state = .active) && decide (c.wait = .none)) || decide (c.state = .quiet)
  let empty := s.trunkEmpty t
  s.modTrunk t fun c =>
    let idle := if counted c then (if c.orderExchange then 0 else min 15 (c.idleCount + 1))
      else if c.state = .active then 0 else c.idleCount
    { c with
      idleCount := idle
      orderExchange := false
      state :=
        if c.state = .active ∧ c.wait = .none ∧ c.config.quietLimit ≠ 0 ∧ c.config.quietLimit ≤ idle ∧ empty then .quiet
        else c.state }

/-- The WAS_DOWN and WAS_QUIET indications of the interval that starts (R157), and the pending-announce flag (R78). -/
def State.intervalStartTrunk (t : TrunkId) (s : State) : State :=
  let c := s.trunks[t]
  let s := s.modMeter t fun m => { m with wasDown := decide (c.state = .down), wasQuiet := decide (c.state = .quiet) }
  if (c.state = .active ∨ c.state = .quiet) ∧ c.mode ≠ 63 then s.modSched t fun g => { g with announce := true } else s

/-- An interval end (R152, R154, R157): the reports, then the idle counts and quiet entry, then the announce flags, then the new
interval, with any pending length, and the trunk-free events that follow. -/
def State.closeInterval (short : Bool) (span : Nat) (s : State) : State :=
  let s := forAll (State.reportTrunk short span) allTrunks s
  let s := forAll State.idleUpdate allTrunks s
  let s := forAll State.intervalStartTrunk allTrunks s
  let s := s.modInterval fun i =>
    { i with position := 0, length := i.pendingLength.getD i.length, pendingLength := none }
  s.trunksFree

/-! ## The claims of a tick event (R151; log entry 4) -/

/-- An order reaches its deadline at the present tick (R23). -/
def State.orderExpires (s : State) (o : Order) : Bool :=
  match o.deadline with
  | some d => o.state.unended && decide (age s.interval.tick o.accepted = d)
  | none => false

/-- An order's expiry at the tick event (R24), with the trunk-free event that may follow. -/
def State.takeExpiry (tag : Byte) (s : State) : State :=
  match s.table.find tag with
  | some o => if s.orderExpires o then (s.endOrMark .expire tag).trunkFree (trunkOf o.node) else s
  | none => s

/-- A node's busy backoff ends at the present tick (R80). -/
def State.backoffEnds (s : State) (n : NodeId) : Bool :=
  s.nodeScheds[n].inForce && decide (s.nodeScheds[n].expiry = some (s.interval.tick - 1))

/-- A busy backoff's expiry at the tick event (R80), with the trunk-free event that may follow. -/
def State.takeBackoffExpiry (n : NodeId) (s : State) : State :=
  if s.backoffEnds n then (s.modNodeSched n fun g => { g with inForce := false }).trunkFree (trunkOf n) else s

/-- A node's poll falls due at the present tick (R81). -/
def State.pollFallsDue (s : State) (n : NodeId) : Bool :=
  !s.nodeScheds[n].pollDue &&
  decide (s.trunks[trunkOf n].effectivePoll ≤ age s.interval.tick s.nodes[n].lastExchange)

/-- The setting of a node's poll-due indication at the tick event (R81), with the trunk-free event that may follow. -/
def State.takePollDue (n : NodeId) (s : State) : State :=
  if s.pollFallsDue n then (s.modNodeSched n fun g => { g with pollDue := true }).trunkFree (trunkOf n) else s

/-- Whether a head record's age has reached an age limit (R135). -/
def CompletionQueue.agedAt (now : Word) (q : CompletionQueue) : Bool :=
  match q.records with
  | r :: _ => decide (q.ageLimit ≠ 0) && decide (q.ageLimit ≤ age now r.stamp)
  | [] => false

/-- The head record becomes aged at the tick event, and the COMPLETIONS level is taken anew (R135). -/
def State.takeHeadAged (s : State) : State :=
  if s.completions.agedAt s.interval.tick then
    (s.modCompletions fun q => { q with headAged := true }).takeCompletionsLevel
  else s

/-- The interval advances by the tick event (R152): the position rises, and when it reaches the length in force the interval ends. -/
def State.advanceInterval (s : State) : State :=
  if s.interval.position + 1 < s.interval.length then s.modInterval fun i => { i with position := i.position + 1 }
  else s.closeInterval false s.interval.length

/-- One claim of the tick event taken. -/
def State.applyClaim (c : TickClaim) (s : State) : State :=
  match c with
  | .expiry tag => s.takeExpiry tag
  | .backoff n => s.takeBackoffExpiry n
  | .poll n => s.takePollDue n
  | .headAged => s.takeHeadAged
  | .intervalEnd => s.advanceInterval

/-- A claim of the last tick event, if it is still to be taken, is taken and leaves the list. -/
def State.takeClaim (c : TickClaim) (s : State) : State :=
  if c ∈ s.claims then ({ s with claims := s.claims.erase c }).applyClaim c else s

/-- An expiry claim that still acts: the order of its tag is live, unended and reaches its deadline at the present tick (R23,
R24). -/
def State.expiryDue (s : State) (tag : Byte) : Bool :=
  match s.table.find tag with
  | some o => s.orderExpires o
  | none => false

/-- The next expiry claim to be taken: the first that still acts, since orders that expire at one tick event end in ascending tag
order (R24). A claim whose order has ended meanwhile holds no other claim back: each is a claim on its own entry (log entry 21). -/
def State.nextExpiry (s : State) : Option TickClaim :=
  s.claims.find? fun c => match c with | .expiry tag => s.expiryDue tag | _ => false

/-- A tag placed into an ascending list. -/
def insertTag (tag : Byte) : List Byte → List Byte
  | [] => [tag]
  | u :: rest => if tag.toNat < u.toNat then tag :: u :: rest else u :: insertTag tag rest

/-- The tags of the orders that expire at the present tick, ascending (R24). -/
def State.expiringTags (s : State) : List Byte :=
  (s.table.live.filter s.orderExpires).foldr (fun o l => insertTag o.tag l) []

/-- The claims the tick event brings (R151): expiries by ascending tag, backoffs and polls by ascending node, the head record's age
and the interval end. -/
def State.dueClaims (s : State) (intervalEnds : Bool) : List TickClaim :=
  s.expiringTags.map .expiry ++
  (allNodes.filter s.backoffEnds).map .backoff ++
  (allNodes.filter s.pollFallsDue).map .poll ++
  (if !s.completions.headAged && s.completions.agedAt s.interval.tick then [.headAged] else []) ++
  (if intervalEnds then [.intervalEnd] else [])

/-- The claims left from the last tick event are taken, in their order, before the next tick event (log entry 4). -/
def State.takeLeftClaims (s : State) : State :=
  forAll State.applyClaim s.claims { s with claims := [] }

/-- A tick event (R151): the tick count rises by one and wraps, the interval position rises unless the interval ends with it, and
the blocks that act on time get their claims. -/
def State.tickEvent (s : State) : State :=
  let s := s.takeLeftClaims
  let ends := !decide (s.interval.position + 1 < s.interval.length)
  let s := s.modInterval fun i => { i with tick := i.tick + 1, position := if ends then i.position else i.position + 1 }
  { s with claims := s.dueClaims ends }

end Sys2Proof.Machine
end

