-- ==== Sys2Proof/Machine/Requests.lean ====
section
/-! DEFINITION. What every host request shares (10.5 and 10.6): the five checks in their order, the answer fixed in the event in
which the request is taken, and the taking of an addressed request. -/

namespace Sys2Proof.Machine

open Sys2Proof

/-- The outcome of a request: the state it leaves, the outcome code and the reply payload (R171). -/
structure Answer where
  state : State
  outcome : OutcomeCode
  payload : List Byte

/-- A request refused: no state changes and the reply has no payload (R166, R171). -/
def refuse (o : OutcomeCode) (s : State) : Answer := ⟨s, o, []⟩

/-- A request accepted, with no reply payload. -/
def accept (s : State) : Answer := ⟨s, .accepted, []⟩

/-- A request accepted, with a reply payload. -/
def acceptWith (p : List Byte) (s : State) : Answer := ⟨s, .accepted, p⟩

/-- The part-state check of READ_STATUS: taken in every part state (R180). -/
def gateStatus (_ : PartState) : Option OutcomeCode := none

/-- The part-state check of READ_IDENTITY and RESET_PART (R180). -/
def gateIdentity (p : PartState) : Option OutcomeCode :=
  match p with
  | .starting => some .starting
  | .inReset => some .starting
  | .ready => none
  | .failed => none

/-- The part-state check of every other kind (R180). -/
def gateReady (p : PartState) : Option OutcomeCode :=
  match p with
  | .starting => some .starting
  | .inReset => some .starting
  | .ready => none
  | .failed => some .failed

/-- Checks 2 to 4 of R171 in their order, then the request's own conditions and effect. -/
def checked (gate : PartState → Option OutcomeCode) (lengthOk fieldsOk : Bool) (body : State → Answer) (s : State) : Answer :=
  if lengthOk = false then refuse .badLength s
  else if fieldsOk = false then refuse .badField s
  else match gate s.startUp.part with
    | some o => refuse o s
    | none => body s

/-- Own conditions in the order of a rule's table: the first that holds gives the refusal, else the effect follows. -/
def firstOf (tests : List (Bool × OutcomeCode)) (body : State → Answer) (s : State) : Answer :=
  match tests.find? fun c => c.1 with
  | some c => refuse c.2 s
  | none => body s

/-- A request that names an order by its tag (R2). -/
def withOrder (tag : Byte) (body : Order → State → Answer) (s : State) : Answer :=
  match s.table.find tag with
  | some o => body o s
  | none => refuse .noSuchTag s

/-- A request with a node number in its one payload byte (R100): the length and field checks. -/
def nodeRequest (p : List Byte) (body : NodeId → State → Answer) (s : State) : Answer :=
  checked gateReady (decide (p.length = 1)) (nodeOfByte (byteAt p 0)).isSome
    (fun s => match nodeOfByte (byteAt p 0) with | some n => body n s | none => refuse .badField s) s

/-- A request with a trunk in its first payload byte (R110, R119, R162, R163): the length and field checks. -/
def trunkRequest (length : Nat) (fieldsOk : Bool) (p : List Byte) (body : TrunkId → State → Answer) (s : State) : Answer :=
  checked gateReady (decide (p.length = length)) ((trunkOfByte (byteAt p 0)).isSome && fieldsOk)
    (fun s => match trunkOfByte (byteAt p 0) with | some t => body t s | none => refuse .badField s) s

/-- A request of the first 29 rows: its payload and the state it is taken against give its answer. -/
abbrev Request := List Byte → State → Answer

/-- A trunk state in which the trunk's orders are refused (R5, R20). -/
def TrunkState.unavailable : TrunkState → Bool
  | .disabled => true | .stopping => true | .down => true
  | .active => false | .quiet => false

/-- The node test and the trunk test of R5 and R20. -/
def State.trunkRefuses (s : State) (n : NodeId) : Bool := s.trunks[trunkOf n].state.unavailable
def State.nodeRefuses (s : State) (n : NodeId) : Bool := !s.nodes[n].state.inService

/-- The queue cap of R5 and R20. -/
def State.queueFull (s : State) (n : NodeId) : Bool := decide (Config.nodeQueueLimit ≤ (s.table.queue n).length)

/-! ## Taking an addressed request (R169, R171, R172) -/

/-- The Host Line Unit in the event in which a good frame addressed to this part completes (R169, R172): the receiver is REPLYING
and the buffer keeps the frame. -/
def State.frameTaken (frame : List Byte) (s : State) : State :=
  s.modHostLine fun h =>
    { h with receiver := .replying, buffer := frame, gapTimer := false, replyErrorCounted := false }

/-- The answer to a request fixed in the event in which it is taken (R171). A reset of kind REQUEST follows the ACCEPTED reply to
RESET_PART (R174). -/
def Answer.fixed (kind : Byte) (a : Answer) : State :=
  a.state.modHostLine fun h =>
    { h with reply := some ⟨kind, a.outcome, a.payload, decide (kind = 0x03) && decide (a.outcome = .accepted)⟩ }

/-- A request addressed to this part is taken: the receiver is REPLYING, the request has its effect and its answer is fixed, all in
one event. -/
def takeAddressed (kind : Byte) (frame : List Byte) (request : Request) (payload : List Byte) (s : State) : State :=
  (request payload (s.frameTaken frame)).fixed kind

/-- A byte, or a whole frame, that arrives while the receiver is REPLYING is discarded; the first of one period is a line error
(R172). -/
def State.discardWhileReplying (s : State) : State :=
  if s.hostLine.replyErrorCounted then s
  else (s.modHostLine fun h => { h with replyErrorCounted := true }).lineError

/-- A frame under reception is discarded as a line error (R168). -/
def State.discardFrame (s : State) : State :=
  (s.modHostLine fun h => { h with receiver := .hunting, buffer := [], gapTimer := false }).lineError

/-- HRX at the stop bit of a byte: high for a good stop bit, low for a framing error; the line-hold timer runs while HRX is low
(R173; log entry 20). -/
def State.hrxAfterByte (framingError : Bool) (s : State) : State :=
  s.modHostLine fun h => { h with hrxLow := framingError, lineHold := framingError }

/-- A request command (log entry 1): a whole good frame of this kind and payload, addressed to this part, has been received. In
reset the Host Line Unit receives nothing; while REPLYING the bytes are discarded (R172); a payload that no frame can carry is
discarded on its length byte (R168; log entry 18). -/
def deliver (kind : Byte) (request : Request) (payload : List Byte) (s : State) : State :=
  if s.startUp.part = .inReset then s
  else
    let s := s.hrxAfterByte false
    if s.hostLine.receiver = .replying then s.discardWhileReplying
    else if Config.hostPayloadLimit < payload.length then s.discardFrame
    else takeAddressed kind (requestFrame s.hostLine.unit kind payload) request payload s

/-- The form of every meaning: no command of this part faults or is refused. -/
abbrev Outcome := Host.Outcome State Fault Refusal

/-- An event that takes place only while the part is READY; otherwise the command changes nothing (log entry 2). -/
def whenReady (f : State → State) (s : State) : State := if s.startUp.part = .ready then f s else s

end Sys2Proof.Machine
end

