-- ==== Sys2Proof/Machine/AttentionRequests.lean ====
section
/-! DEFINITION. The attention requests (8.2): READ_ATTENTION and CLEAR_ATTENTION. -/

namespace Sys2Proof.Machine

open Sys2Proof

/-- An entry in the READ_ATTENTION reply, with its flags before the read (8.2). -/
def AttentionEntry.encode (e : AttentionEntry) : List Byte :=
  [byteOf e.node.val, e.code, byteOf e.repeats, flagByte e.seen ||| flagByte e.renewed <<< 1]

/-- The READ_ATTENTION reply (8.2). -/
def attentionPayload (l : List AttentionEntry) : List Byte :=
  byteOf l.length :: l.flatMap AttentionEntry.encode

/-- An entry after a READ_ATTENTION (R139). -/
def AttentionEntry.read (e : AttentionEntry) : AttentionEntry := { e with seen := true, renewed := false }

/-- READ_ATTENTION (R139). -/
def reqReadAttention (p : List Byte) (s : State) : Answer :=
  checked gateReady p.isEmpty true
    (fun s => acceptWith (attentionPayload s.attention)
      ({ s with attention := s.attention.map AttentionEntry.read }).takeAttentionLevel) s

/-- An entry that a CLEAR_ATTENTION removes (R140). -/
def AttentionEntry.cleared (e : AttentionEntry) : Bool := e.seen && !e.renewed

/-- The list after a CLEAR_ATTENTION (R140): seen is clear in every entry that stays. -/
def clearAttentionList (l : List AttentionEntry) : List AttentionEntry :=
  (l.filter fun e => !e.cleared).map fun e => { e with seen := false }

/-- CLEAR_ATTENTION (R140). -/
def reqClearAttention (p : List Byte) (s : State) : Answer :=
  checked gateReady p.isEmpty true
    (fun s => acceptWith
      [byteOf (s.attention.filter AttentionEntry.cleared).length, byteOf (clearAttentionList s.attention).length]
      ({ s with attention := clearAttentionList s.attention }).takeAttentionLevel) s

/-- READ_ATTENTION as a command. -/
def execReadAttention (p : List Byte) (s : State) : Outcome := .next (deliver 0x1C reqReadAttention p s)
/-- CLEAR_ATTENTION as a command. -/
def execClearAttention (p : List Byte) (s : State) : Outcome := .next (deliver 0x1D reqClearAttention p s)

end Sys2Proof.Machine
end

