-- ==== Sys2Proof/Machine/CompletionRequests.lean ====
section
/-! DEFINITION. The completion requests (chapter 7): TAKE_COMPLETIONS and SET_COMPLETION_NOTICE. -/

namespace Sys2Proof.Machine

open Sys2Proof

/-- The head record tested at once against the age limit: a record that becomes the head through a take, or the head after a new
limit (R135). -/
def CompletionQueue.testHead (now : Word) (q : CompletionQueue) : CompletionQueue := { q with headAged := q.agedAt now }

/-- Steps 1 to 3 of R132: the records removed, the backlog posted while there is room, the COMPLETIONS level taken anew. -/
def takeEffect (r : Nat) (s : State) : State :=
  let s := s.modCompletions fun q => ({ q with records := q.records.drop r }).testHead s.interval.tick
  (State.post s.table.backlog.length s).takeCompletionsLevel

/-- The TAKE_COMPLETIONS reply: the records returned and the counts the event leaves (7.4, R132). -/
def takePayload (taken : List Posted) (after : State) : List Byte :=
  [byteOf taken.length, byteOf after.completions.records.length, byteOf after.table.backlog.length] ++
    taken.flatMap fun r => r.record.encode

/-- TAKE_COMPLETIONS (R131, R132). A take of no record, from an empty queue, leaves the head as it is. -/
def reqTakeCompletions (p : List Byte) (s : State) : Answer :=
  let max := (byteAt p 0).toNat
  checked gateReady (decide (p.length = 1)) (decide (1 ≤ max ∧ max ≤ Config.takeLimit))
    (fun s =>
      let r := min max s.completions.records.length
      let after := takeEffect r s
      acceptWith (takePayload (s.completions.records.take r) after) after) s

/-- SET_COMPLETION_NOTICE (R134, R135). The head record is tested afresh whatever limit is written, the one in force too, though R135
also keeps an aged record aged while the limit is unchanged (DESIGN CHOICE, log entry 32). -/
def reqSetCompletionNotice (p : List Byte) (s : State) : Answer :=
  let watermark := (byteAt p 0).toNat
  checked gateReady (decide (p.length = 2)) (decide (1 ≤ watermark ∧ watermark ≤ Config.completionRecords))
    (fun s => accept
      (s.modCompletions fun q =>
        ({ q with watermark := watermark, ageLimit := (byteAt p 1).toNat }).testHead s.interval.tick).takeCompletionsLevel) s

/-- TAKE_COMPLETIONS as a command. -/
def execTakeCompletions (p : List Byte) (s : State) : Outcome := .next (deliver 0x18 reqTakeCompletions p s)
/-- SET_COMPLETION_NOTICE as a command. -/
def execSetCompletionNotice (p : List Byte) (s : State) : Outcome := .next (deliver 0x19 reqSetCompletionNotice p s)

end Sys2Proof.Machine
end

