-- ==== Sys2Proof/Machine/HostRequests.lean ====
section
/-! DEFINITION. READ_IDENTITY, READ_STATUS, RESET_PART and the notice requests (10.8, 8.4, 8.6). -/

namespace Sys2Proof.Machine

open Sys2Proof

/-- The identity payload (R175): NELMATRA, ET24C, revision 3, and the sizes. -/
def identityPayload : List Byte :=
  [0x4E, 0x45, 0x4C, 0x4D, 0x41, 0x54, 0x52, 0x41, 0x45, 0x54, 0x32, 0x34, 0x43, 3, 48, 96, 0x00, 0x01, 24, 32, 4]

/-- READ_IDENTITY (R175). -/
def reqReadIdentity (p : List Byte) (s : State) : Answer :=
  checked gateIdentity p.isEmpty true (acceptWith identityPayload) s

/-- The status payload (8.6). -/
def statusPayload (s : State) : List Byte :=
  [s.startUp.part.code, s.startUp.cause.code] ++ leWord s.interval.tick ++ leWord s.notices.flags ++ leWord s.notices.mask ++
  [byteOf s.completions.records.length, byteOf s.table.backlog.length, byteOf s.attention.length,
   byteOf s.pool.freeList.length, byteOf s.table.live.length,
   s.trunks[0].state.code, s.trunks[1].state.code, s.trunks[2].state.code,
   trunkBits s.supplies[0].supplyLow s.supplies[1].supplyLow s.supplies[2].supplyLow |||
     trunkBits s.notices.faultSeen[0] s.notices.faultSeen[1] s.notices.faultSeen[2] <<< 4,
   byteOf s.hostLine.errorCount]

/-- READ_STATUS (R149). -/
def reqReadStatus (p : List Byte) (s : State) : Answer :=
  checked gateStatus p.isEmpty true (fun s => acceptWith (statusPayload s) s) s

/-- RESET_PART (R174): the reset begins at the end of the reply (REPLY_END), or at once for a broadcast. -/
def reqResetPart (p : List Byte) (s : State) : Answer := checked gateIdentity p.isEmpty true accept s

/-- SET_NOTICE_MASK (R145). -/
def reqSetNoticeMask (p : List Byte) (s : State) : Answer :=
  let mask := wordAt p 0
  checked gateReady (decide (p.length = 2)) (decide (mask &&& unusedFlags = 0))
    (fun s => accept (s.withNotices fun n =>
      { n with flags := n.flags &&& ~~~(latchedFlags &&& n.mask &&& ~~~mask), mask := mask })) s

/-- The reply payload of CLEAR_NOTICES (8.4). -/
def clearNoticesPayload (s : State) : List Byte :=
  leWord s.notices.flags ++
  [trunkBits s.notices.faultSeen[0] s.notices.faultSeen[1] s.notices.faultSeen[2], byteOf s.hostLine.errorCount]

/-- CLEAR_NOTICES (R146). -/
def reqClearNotices (p : List Byte) (s : State) : Answer :=
  let selected := wordAt p 0
  checked gateReady (decide (p.length = 2)) (decide (selected &&& unusedFlags = 0))
    (fun s =>
      let reply := clearNoticesPayload s
      let s := if selected.getLsbD NoticeFlag.lineError.bit then s.modHostLine fun h => { h with errorCount := 0 } else s
      acceptWith reply (s.withNotices fun n =>
        { n with
          flags := n.flags &&& ~~~(latchedFlags &&& selected)
          faultSeen := if selected.getLsbD NoticeFlag.trunkDown.bit then Vector.replicate 3 false else n.faultSeen })) s

/-- READ_IDENTITY as a command. -/
def execReadIdentity (p : List Byte) (s : State) : Outcome := .next (deliver 0x01 reqReadIdentity p s)
/-- READ_STATUS as a command. -/
def execReadStatus (p : List Byte) (s : State) : Outcome := .next (deliver 0x02 reqReadStatus p s)
/-- RESET_PART as a command. -/
def execResetPart (p : List Byte) (s : State) : Outcome := .next (deliver 0x03 reqResetPart p s)
/-- SET_NOTICE_MASK as a command. -/
def execSetNoticeMask (p : List Byte) (s : State) : Outcome := .next (deliver 0x08 reqSetNoticeMask p s)
/-- CLEAR_NOTICES as a command. -/
def execClearNotices (p : List Byte) (s : State) : Outcome := .next (deliver 0x09 reqClearNotices p s)

end Sys2Proof.Machine
end

