-- ==== Sys2Proof/Machine/NodeRequests.lean ====
section
/-! DEFINITION. The node requests (5.6): READ_NODE, ENABLE_NODE, DISABLE_NODE and RESTORE_NODE. -/

namespace Sys2Proof.Machine

open Sys2Proof

/-- Byte 8 of READ_NODE (R103): 0 no busy backoff, 1 present and expired, 2 present and in force. -/
def backoffCode (g : NodeSchedule) : Byte := if g.expiry.isNone then 0 else if g.inForce then 2 else 1

/-- The READ_NODE payload (R103). -/
def nodePayload (s : State) (n : NodeId) : List Byte :=
  let r := s.nodes[n]
  let g := s.nodeScheds[n]
  [byteOf n.val, r.state.code, flagByte r.seqBit, byteOf r.consecutive] ++ leNat r.total ++ leWord r.lastExchange ++
  [backoffCode g] ++ leWord (g.expiry.getD 0) ++
  [byteOf (s.table.queue n).length, (s.table.queue n).headD 0,
   flagByte (match s.table.head n with | some o => s.orderInFlight o | none => false),
   byteOf (s.table.live.filter fun o => decide (o.node = n) && decide (o.state = .filling)).length]

/-- READ_NODE (R103). -/
def reqReadNode (p : List Byte) (s : State) : Answer := nodeRequest p (fun n s => acceptWith (nodePayload s n) s) s

/-- A node set aside or disabled returns as UNSEEN with no consecutive failures (R100, R102); the trunk may have become free for it
(R76). -/
def State.returnNode (n : NodeId) (s : State) : State :=
  (s.modNode n fun r => { r with state := .unseen, consecutive := 0 }).trunkFree (trunkOf n)

/-- ENABLE_NODE (R100). -/
def reqEnableNode (p : List Byte) (s : State) : Answer :=
  nodeRequest p (fun n s =>
    match s.nodes[n].state with
    | .disabled => accept (s.returnNode n)
    | .unseen => refuse .wrongState s
    | .online => refuse .wrongState s
    | .isolated => refuse .wrongState s) s

/-- DISABLE_NODE (R101, R25): the head ends or is marked, then the queued orders end, in queue order. -/
def reqDisableNode (p : List Byte) (s : State) : Answer :=
  nodeRequest p (fun n s =>
    match s.nodes[n].state with
    | .disabled => accept s
    | .unseen | .online | .isolated =>
      accept (forAll (State.endOrMark .cancel) (s.table.queue n) (s.modNode n fun r => { r with state := .disabled }))) s

/-- RESTORE_NODE (R102). -/
def reqRestoreNode (p : List Byte) (s : State) : Answer :=
  nodeRequest p (fun n s =>
    match s.nodes[n].state with
    | .isolated => accept (s.returnNode n)
    | .disabled => refuse .wrongState s
    | .unseen => refuse .wrongState s
    | .online => refuse .wrongState s) s

/-- READ_NODE as a command. -/
def execReadNode (p : List Byte) (s : State) : Outcome := .next (deliver 0x20 reqReadNode p s)
/-- ENABLE_NODE as a command. -/
def execEnableNode (p : List Byte) (s : State) : Outcome := .next (deliver 0x21 reqEnableNode p s)
/-- DISABLE_NODE as a command. -/
def execDisableNode (p : List Byte) (s : State) : Outcome := .next (deliver 0x22 reqDisableNode p s)
/-- RESTORE_NODE as a command. -/
def execRestoreNode (p : List Byte) (s : State) : Outcome := .next (deliver 0x23 reqRestoreNode p s)

end Sys2Proof.Machine
end

