-- ==== Sys2Proof/Machine/OrderRequests.lean ====
section
/-! DEFINITION. The order requests (chapters 1 and 2): SUBMIT_ORDER, FILL_ORDER, COMMIT_ORDER, CANCEL_ORDER, READ_ORDER,
READ_FETCHED and RETIRE_ORDER. -/

namespace Sys2Proof.Machine

open Sys2Proof

/-! ## SUBMIT_ORDER (R4 to R6) -/

/-- The length check of SUBMIT_ORDER (R4). -/
def submitLengthOk (p : List Byte) : Bool :=
  decide (12 ≤ p.length) && decide (p.length = 12 + (byteAt p 11).toNat)

/-- The order a SUBMIT_ORDER payload describes (1.2, R6), before its segments and its state; none when a field is out of range
(R4). -/
def submittedOrder (p : List Byte) (now : Word) : Option Order :=
  let length := (wordAt p 6).toNat
  let point := wordAt p 4
  let seed := byteAt p 10
  let count := (byteAt p 11).toNat
  match nodeOfByte (byteAt p 1), orderKindOf (byteAt p 2), orderClassOf (byteAt p 3) with
  | some n, some k, some c =>
    if byteAt p 0 ≠ 0 ∧ k.lengthOk length ∧ count = (if k = .pointWrite then length else 0) ∧
        (k.hasPoint ∨ point = 0) ∧ (k = .echoTest ∨ seed = 0) then
      some {
        tag := byteAt p 0, node := n, kind := k, cls := c
        point := if k.hasPoint then some point else none
        length := length
        inlineData := p.drop 12
        seed := if k = .echoTest then some seed else none
        deadline := if wordAt p 8 = 0 then none else some (wordAt p 8).toNat
        accepted := now, chain := [], fill := 0, progress := 0, retries := 0, mark := none, result := none
        nakReason := 0, endStamp := 0
        state := if k = .bulkSend then .filling else .queued }
    else none
  | _, _, _ => none

/-- The tests of R5, in their order. -/
def submitTests (o : Order) (s : State) : List (Bool × OutcomeCode) :=
  [((s.table.find o.tag).isSome, .tagBusy),
   (!s.table.hasFree, .tableFull),
   (s.trunkRefuses o.node, .trunkUnavailable),
   (s.nodeRefuses o.node, .nodeUnavailable),
   (decide (o.kind ≠ .bulkSend) && s.queueFull o.node, .nodeQueueFull),
   (o.kind.isBulk && decide (s.pool.freeList.length < segmentsFor o.length), .poolEmpty)]

/-- The effect of an accepted SUBMIT_ORDER (R6, R31). -/
def submitEffect (o : Order) (s : State) : State :=
  let k := if o.kind.isBulk then segmentsFor o.length else 0
  let o := { o with chain := s.pool.freeList.take k }
  let owner := if o.kind = .bulkSend then Owner.hostSide else Owner.trunkSide
  let s := if o.kind.isBulk then s.modPool (SegmentPool.allocate k o.tag owner) else s
  let s := s.modTable (OrderTable.add o)
  if o.kind = .bulkSend then s else (s.enterQueued o.tag).trunkFree (trunkOf o.node)

/-- SUBMIT_ORDER (R4 to R6). -/
def reqSubmitOrder (p : List Byte) (s : State) : Answer :=
  checked gateReady (submitLengthOk p) (submittedOrder p 0).isSome
    (fun s =>
      match submittedOrder p s.interval.tick with
      | some o => firstOf (submitTests o s) (fun s => accept (submitEffect o s)) s
      | none => refuse .badField s) s

/-! ## FILL_ORDER (R34 to R36) -/

/-- FILL_ORDER (R34 to R36). -/
def reqFillOrder (p : List Byte) (s : State) : Answer :=
  let tag := byteAt p 0
  let offset := (wordAt p 1).toNat
  let n := (byteAt p 3).toNat
  checked gateReady (decide (4 ≤ p.length) && decide (p.length = 4 + n))
    (decide (tag ≠ 0) && decide (1 ≤ n ∧ n ≤ Config.dataLimit) && decide (offset ≤ 2047))
    (withOrder tag fun o s =>
      firstOf
        [(decide (o.state ≠ .filling), .wrongState),
         (decide (offset ≠ o.fill), .fillGap),
         (decide (o.length < offset + n), .overrun)]
        (fun s => accept
          ((s.modPool (SegmentPool.writeData .hostSide tag o.chain offset (p.drop 4))).modTable
            (OrderTable.update tag fun o => { o with fill := o.fill + n }))) s) s

/-! ## COMMIT_ORDER (R20) -/

/-- The length and field checks of a request whose payload is one tag (R2). -/
def tagRequest (p : List Byte) (body : Order → State → Answer) (s : State) : Answer :=
  checked gateReady (decide (p.length = 1)) (decide (byteAt p 0 ≠ 0)) (withOrder (byteAt p 0) body) s

/-- COMMIT_ORDER (R20, R38). -/
def reqCommitOrder (p : List Byte) (s : State) : Answer :=
  tagRequest p (fun o s =>
    firstOf
      [(decide (o.state ≠ .filling), .wrongState),
       (decide (o.fill < o.length), .shortFill),
       (s.trunkRefuses o.node, .trunkUnavailable),
       (s.nodeRefuses o.node, .nodeUnavailable),
       (s.queueFull o.node, .nodeQueueFull)]
      (fun s => accept
        (((s.modPool fun p => o.chain.foldl (fun p g => p.setOwner .trunkSide g) p).enterQueued o.tag).trunkFree
          (trunkOf o.node))) s) s

/-! ## CANCEL_ORDER (R21) -/

/-- CANCEL_ORDER (R21), with the trunk-free event that the end of an order may complete (R76). -/
def reqCancelOrder (p : List Byte) (s : State) : Answer :=
  tagRequest p (fun o s =>
    let after := (s.endOrMark .cancel o.tag).trunkFree (trunkOf o.node)
    match o.state with
    | .filling => accept after
    | .queued => accept after
    | .active => if s.orderInFlight o then ⟨s.endOrMark .cancel o.tag, .cancelPending, []⟩ else accept after
    | .ended => refuse .tooLate s
    | .parked => refuse .tooLate s) s

/-! ## READ_ORDER (R27) -/

/-- Bytes 17-18 of READ_ORDER: the deadline minus the age while the order is unended and its deadline is present, 0 otherwise
(R27). Past the deadline the spec states no value, and a free value stands there (log entry 14). -/
def deadlineRemaining (s : State) (o : Order) : Word :=
  match o.deadline with
  | none => 0
  | some d =>
    if o.state.unended then
      if age s.interval.tick o.accepted ≤ d then BitVec.ofNat 16 (d - age s.interval.tick o.accepted)
      else Config.remainingPastDeadline d (age s.interval.tick o.accepted)
    else 0

/-- The place of an order in its node queue, 255 when it is in none (R27). -/
def queuePlace (s : State) (o : Order) : Byte :=
  if o.tag ∈ s.table.queue o.node then byteOf ((s.table.queue o.node).idxOf o.tag) else 255

/-- The READ_ORDER payload (R27). -/
def orderPayload (s : State) (o : Order) : List Byte :=
  [o.tag, byteOf o.node.val, o.kind.code, o.cls.code, o.state.code, markCode o.mark, flagByte (s.orderInFlight o),
   queuePlace s o] ++ leWord (o.point.getD 0) ++ leNat o.length ++ leNat o.fill ++ leNat o.progress ++ [byteOf o.retries] ++
  leWord (deadlineRemaining s o) ++
  [if o.state.unended then 0 else match o.result with | some r => r.code | none => 0, o.nakReason] ++
  leWord (if o.state.unended then 0 else o.endStamp) ++ [byteOf o.chain.length, byteOf o.inlineData.length] ++ o.inlineData

/-- READ_ORDER (R27). -/
def reqReadOrder (p : List Byte) (s : State) : Answer := tagRequest p (fun o s => acceptWith (orderPayload s o) s) s

/-! ## READ_FETCHED (R44, R45) -/

/-- READ_FETCHED (R44, R45). -/
def reqReadFetched (p : List Byte) (s : State) : Answer :=
  let tag := byteAt p 0
  let offset := (wordAt p 1).toNat
  let n := (byteAt p 3).toNat
  checked gateReady (decide (p.length = 4))
    (decide (tag ≠ 0) && decide (1 ≤ n ∧ n ≤ Config.dataLimit) && decide (offset ≤ 2047))
    (withOrder tag fun o s =>
      firstOf
        [(decide (o.kind ≠ .bulkFetch) || !(decide (o.state = .active) || decide (o.state = .parked)), .wrongState),
         ((List.range n).any fun i => !s.pool.positionReached .hostSide tag o.chain (offset + i), .notOwned),
         (decide (o.progress < offset + n), .overrun)]
        (fun s => acceptWith (s.pool.readData o.chain offset n) s) s) s

/-! ## RETIRE_ORDER (R28) -/

/-- RETIRE_ORDER (R28). -/
def reqRetireOrder (p : List Byte) (s : State) : Answer :=
  tagRequest p (fun o s =>
    match o.state with
    | .parked => accept ((s.modPool (SegmentPool.freeAll o.chain)).modTable (OrderTable.release o.tag))
    | .filling => refuse .wrongState s
    | .queued => refuse .wrongState s
    | .active => refuse .wrongState s
    | .ended => refuse .wrongState s) s

/-- SUBMIT_ORDER as a command. -/
def execSubmitOrder (p : List Byte) (s : State) : Outcome := .next (deliver 0x10 reqSubmitOrder p s)
/-- FILL_ORDER as a command. -/
def execFillOrder (p : List Byte) (s : State) : Outcome := .next (deliver 0x11 reqFillOrder p s)
/-- COMMIT_ORDER as a command. -/
def execCommitOrder (p : List Byte) (s : State) : Outcome := .next (deliver 0x12 reqCommitOrder p s)
/-- CANCEL_ORDER as a command. -/
def execCancelOrder (p : List Byte) (s : State) : Outcome := .next (deliver 0x13 reqCancelOrder p s)
/-- READ_ORDER as a command. -/
def execReadOrder (p : List Byte) (s : State) : Outcome := .next (deliver 0x14 reqReadOrder p s)
/-- READ_FETCHED as a command. -/
def execReadFetched (p : List Byte) (s : State) : Outcome := .next (deliver 0x15 reqReadFetched p s)
/-- RETIRE_ORDER as a command. -/
def execRetireOrder (p : List Byte) (s : State) : Outcome := .next (deliver 0x16 reqRetireOrder p s)

end Sys2Proof.Machine
end

