-- ==== Sys2Proof/Machine/ReportRequests.lean ====
section
/-! DEFINITION. The interval and report requests (chapter 9): READ_REPORT, SET_INTERVAL, SYNC_INTERVAL and RESET_PEAK. -/

namespace Sys2Proof.Machine

open Sys2Proof

/-- A stored report in the layout of READ_REPORT bytes 2 to 34 (9.6). -/
def Report.encode (r : Report) : List Byte :=
  [r.sequence.setWidth 8, r.state.code,
   flagByte r.wasDown ||| flagByte r.wasQuiet <<< 1 ||| flagByte r.short <<< 2,
   byteOf r.faultClass, byteOf r.severe, byteOf r.peak] ++ leWord r.endStamp ++ leNat r.span ++
  leNat r.counts.started ++ leNat r.counts.good ++ leNat r.counts.noStart ++ leNat r.counts.broken ++
  leNat r.counts.stray ++ leNat r.counts.busy ++ leNat r.counts.retries ++ leNat r.counts.isolations ++
  leNat r.counts.ordersDone ++ leNat r.counts.ordersOther ++ leNat3 r.counts.bytesMoved

/-- READ_REPORT (R163). -/
def reqReadReport (p : List Byte) (s : State) : Answer :=
  trunkRequest 2 (decide ((byteAt p 1).toNat ≤ 3)) p (fun t s =>
    match s.meters[t].ring[(byteAt p 1).toNat]? with
    | some r => acceptWith ([byteOf t.val, byteOf s.meters[t].ring.length] ++ r.encode) s
    | none => refuse .noReport s) s

/-- SET_INTERVAL (R153). -/
def reqSetInterval (p : List Byte) (s : State) : Answer :=
  let length := (wordAt p 0).toNat
  checked gateReady (decide (p.length = 2)) (decide (100 ≤ length ∧ length ≤ 6000))
    (fun s => accept (s.modInterval fun i => { i with pendingLength := some length })) s

/-- SYNC_INTERVAL (R154). -/
def reqSyncInterval (p : List Byte) (s : State) : Answer :=
  checked gateReady p.isEmpty true (fun s => accept (s.closeInterval true s.interval.position)) s

/-- RESET_PEAK (R162). -/
def reqResetPeak (p : List Byte) (s : State) : Answer :=
  trunkRequest 1 true p (fun t s =>
    acceptWith [byteOf s.meters[t].peak] (s.modMeter t fun m => { m with peak := s.currentBacklog t })) s

/-- READ_REPORT as a command. -/
def execReadReport (p : List Byte) (s : State) : Outcome := .next (deliver 0x30 reqReadReport p s)
/-- SET_INTERVAL as a command. -/
def execSetInterval (p : List Byte) (s : State) : Outcome := .next (deliver 0x31 reqSetInterval p s)
/-- SYNC_INTERVAL as a command. -/
def execSyncInterval (p : List Byte) (s : State) : Outcome := .next (deliver 0x32 reqSyncInterval p s)
/-- RESET_PEAK as a command. -/
def execResetPeak (p : List Byte) (s : State) : Outcome := .next (deliver 0x33 reqResetPeak p s)

end Sys2Proof.Machine
end

