-- ==== Sys2Proof/Machine/TrunkRequests.lean ====
section
/-! DEFINITION. The trunk requests (chapter 6): SET_TRUNK, READ_TRUNK, ENABLE_TRUNK, DISABLE_TRUNK and SET_MODE_CODE. -/

namespace Sys2Proof.Machine

open Sys2Proof

/-- SET_TRUNK (R119). -/
def reqSetTrunk (p : List Byte) (s : State) : Answer :=
  trunkRequest 12 (configFieldsOk p) p (fun t s =>
    firstOf [(decide (s.trunks[t].state ≠ .disabled), .wrongState)]
      (fun s => accept (s.modTrunk t fun c => { c with config := configOf p })) s) s

/-- The READ_TRUNK payload (R123). -/
def trunkPayload (s : State) (t : TrunkId) : List Byte :=
  let c := s.trunks[t]
  [byteOf t.val, c.state.code, c.wait.code, flagByte (s.trunkInFlight t)] ++ c.config.encode ++
  [c.mode.setWidth 8, flagByte s.supplies[t].supplyLow, flagByte s.notices.faultSeen[t], byteOf c.idleCount,
   byteOf (s.liveOrders t), byteOf (s.currentBacklog t)]

/-- READ_TRUNK (R123). -/
def reqReadTrunk (p : List Byte) (s : State) : Answer := trunkRequest 1 true p (fun t s => acceptWith (trunkPayload s t) s) s

/-- The Supply Monitor as the power is switched on (R108, R110): SUPPLY_LOW follows the sense, and the fault filter or the settle
timer runs by its level. -/
def SupplyMonitor.start (m : SupplyMonitor) : SupplyMonitor :=
  { m with power := true, supplyLow := !m.senseGood, faultFilter := !m.senseGood, settleTimer := m.senseGood,
           recoveryTimer := false }

/-- ENABLE_TRUNK (R110). -/
def reqEnableTrunk (p : List Byte) (s : State) : Answer :=
  trunkRequest 1 true p (fun t s =>
    firstOf [(decide (s.trunks[t].state ≠ .disabled), .wrongState)]
      (fun s => accept ((s.modSupply t SupplyMonitor.start).enterActive t .settle)) s) s

/-- DISABLE_TRUNK of a trunk in ACTIVE or QUIET (R112): its orders end or are marked, and it becomes DISABLED, or STOPPING while an
exchange is in flight. The announce flag is cleared at the entry to STOPPING, where R78 keeps it clear, although R77, R113 and R124
name only the entries to DISABLED and DOWN (DEDUCED, log entry 30). -/
def State.disableRunning (t : TrunkId) (s : State) : State :=
  let inFlight := s.trunkInFlight t
  let s := forAll (State.endOrMark .cancel) (s.trunkQueueTags t) s
  if inFlight then
    ((s.modTrunk t fun c => { c with state := .stopping, wait := .none }).modSupply t fun m =>
      { m with settleTimer := false }).modSched t fun g => { g with announce := false }
  else s.enterDisabled t

/-- DISABLE_TRUNK (R112, R114). -/
def reqDisableTrunk (p : List Byte) (s : State) : Answer :=
  trunkRequest 1 true p (fun t s =>
    match s.trunks[t].state with
    | .active => accept (s.disableRunning t)
    | .quiet => accept (s.disableRunning t)
    | .down => accept (s.enterDisabled t)
    | .stopping => refuse .wrongState s
    | .disabled => accept s) s

/-- The mode code written to one trunk (R122, R78), with the trunk-free event that a new announce flag may complete (R76). -/
def State.writeMode (code : BitVec 6) (t : TrunkId) (s : State) : State :=
  let c := s.trunks[t]
  if code = c.mode then s
  else
    let s := s.modTrunk t fun c => { c with mode := code }
    if code ≠ 63 ∧ (c.state = .active ∨ c.state = .quiet) then
      (s.modSched t fun g => { g with announce := true }).trunkFree t
    else s

/-- The trunks a SET_MODE_CODE writes (R122, R170): all three for a broadcast or selector 3, else the selected one. -/
def modeTrunks (broadcast : Bool) (selector : Byte) : List TrunkId :=
  if broadcast then allTrunks else match trunkOfByte selector with | some t => [t] | none => allTrunks

/-- SET_MODE_CODE, addressed or broadcast (R122, R170). -/
def setModeCode (broadcast : Bool) (p : List Byte) (s : State) : Answer :=
  checked gateReady (decide (p.length = 2))
    (decide ((byteAt p 0).toNat ≤ 3) && decide ((byteAt p 1).toNat ≤ 63))
    (fun s => accept
      (forAll (State.writeMode ((byteAt p 1).setWidth 6)) (modeTrunks broadcast (byteAt p 0)) s)) s

/-- SET_MODE_CODE addressed to this part alone (R122). -/
def reqSetModeCode (p : List Byte) (s : State) : Answer := setModeCode false p s

/-- SET_TRUNK as a command. -/
def execSetTrunk (p : List Byte) (s : State) : Outcome := .next (deliver 0x28 reqSetTrunk p s)
/-- READ_TRUNK as a command. -/
def execReadTrunk (p : List Byte) (s : State) : Outcome := .next (deliver 0x29 reqReadTrunk p s)
/-- ENABLE_TRUNK as a command. -/
def execEnableTrunk (p : List Byte) (s : State) : Outcome := .next (deliver 0x2A reqEnableTrunk p s)
/-- DISABLE_TRUNK as a command. -/
def execDisableTrunk (p : List Byte) (s : State) : Outcome := .next (deliver 0x2B reqDisableTrunk p s)
/-- SET_MODE_CODE as a command. -/
def execSetModeCode (p : List Byte) (s : State) : Outcome := .next (deliver 0x2C reqSetModeCode p s)

end Sys2Proof.Machine
end

