-- ==== Sys2Proof/Machine/HostLineEvents.lean ====
section
/-! DEFINITION. The events of the host line (10.3, 10.4, 10.6): bytes on HRX, the gap timeout, and the start and end of a reply. -/

namespace Sys2Proof.Machine

open Sys2Proof

/-- The request of a kind byte (10.5); none for a byte that is not one of the 29 codes. -/
def requestOf (kind : Byte) : Option Request :=
  match kind.toNat with
  | 0x01 => some reqReadIdentity | 0x02 => some reqReadStatus | 0x03 => some reqResetPart
  | 0x08 => some reqSetNoticeMask | 0x09 => some reqClearNotices
  | 0x10 => some reqSubmitOrder | 0x11 => some reqFillOrder | 0x12 => some reqCommitOrder | 0x13 => some reqCancelOrder
  | 0x14 => some reqReadOrder | 0x15 => some reqReadFetched | 0x16 => some reqRetireOrder
  | 0x18 => some reqTakeCompletions | 0x19 => some reqSetCompletionNotice
  | 0x1C => some reqReadAttention | 0x1D => some reqClearAttention
  | 0x20 => some reqReadNode | 0x21 => some reqEnableNode | 0x22 => some reqDisableNode | 0x23 => some reqRestoreNode
  | 0x28 => some reqSetTrunk | 0x29 => some reqReadTrunk | 0x2A => some reqEnableTrunk | 0x2B => some reqDisableTrunk
  | 0x2C => some reqSetModeCode
  | 0x30 => some reqReadReport | 0x31 => some reqSetInterval | 0x32 => some reqSyncInterval | 0x33 => some reqResetPeak
  | _ => none

/-- An unknown kind (R171, step 1). -/
def reqUnknown (_ : List Byte) (s : State) : Answer := refuse .unknownKind s

/-- The receiver back in HUNTING with its buffer empty and the gap timer stopped. -/
def State.toHunting (s : State) : State :=
  s.modHostLine fun h => { h with receiver := .hunting, buffer := [], gapTimer := false }

/-- A good broadcast frame (R170): RESET_PART, SET_MODE_CODE and SYNC_INTERVAL are executed when they pass their checks and dropped
when they do not; any other kind is a line error. -/
def takeBroadcast (kind : Byte) (payload : List Byte) (s : State) : State :=
  match kind.toNat with
  | 0x03 =>
    let a := reqResetPart payload s
    if a.outcome = .accepted then a.state.beginReset .request else s
  | 0x2C => (setModeCode true payload s).state
  | 0x32 => (reqSyncInterval payload s).state
  | _ => s.lineError

/-- A complete frame (R168, R169): the check, then the addressing by byte 1. -/
def frameComplete (frame : List Byte) (s : State) : State :=
  let address := byteAt frame 1
  let kind := byteAt frame 2
  let payload := (frame.drop 4).take (byteAt frame 3).toNat
  if byteSum frame ≠ 0xA5 then s.discardFrame
  else if address.getLsbD 7 then takeBroadcast kind payload s.toHunting
  else if address.setWidth 2 = s.hostLine.unit then takeAddressed kind frame ((requestOf kind).getD reqUnknown) payload s
  else s.toHunting

/-- A byte stored in IN_FRAME (R167, R168): byte 3 fixes the length, and the byte at place 4 + L completes the frame. -/
def storeByte (b : Byte) (s : State) : State :=
  let buffer := s.hostLine.buffer ++ [b]
  if buffer.length = 4 ∧ Config.hostPayloadLimit < b.toNat then s.discardFrame
  else if 4 ≤ buffer.length ∧ buffer.length = 5 + (byteAt buffer 3).toNat then frameComplete buffer s
  else s.modHostLine fun h => { h with buffer := buffer, gapTimer := true }

/-- A byte on HRX (R167), by the receiver state. -/
def receiveByte (b : Byte) (framingError : Bool) (s : State) : State :=
  match s.hostLine.receiver with
  | .hunting =>
    if b = 0xB5 ∧ framingError = false then
      s.modHostLine fun h => { h with receiver := .inFrame, buffer := [b], gapTimer := true }
    else s
  | .inFrame => if framingError then s.discardFrame else storeByte b s
  | .replying => s.discardWhileReplying

/-- HOST_BYTE_RECEIVED (R167 to R172). In reset the Host Line Unit receives nothing (log entry 11). -/
def execHostByteReceived (b : Byte) (framingError : Bool) (s : State) : Outcome :=
  .next (if s.startUp.part = .inReset then s else receiveByte b framingError (s.hrxAfterByte framingError))

/-- GAP_TIMEOUT (R168): the gap timer runs in IN_FRAME only. -/
def execGapTimeout (s : State) : Outcome := .next (if s.hostLine.receiver = .inFrame then s.discardFrame else s)

/-- REPLY_START (R172): HTX is driven with the reply frame from here on (R165, R166). -/
def execReplyStart (s : State) : Outcome :=
  .next
    (match s.hostLine.receiver, s.hostLine.reply, s.hostLine.htx with
     | .replying, some r, none => s.modHostLine fun h => { h with htx := some (replyFrame h.unit r) }
     | _, _, _ => s)

/-- The end of a reply (R172): HTX is released and the receiver is HUNTING. -/
def State.endReply (s : State) : State :=
  s.modHostLine fun h =>
    { h with receiver := .hunting, buffer := [], reply := none, replyErrorCounted := false, htx := none }

/-- REPLY_END (R172, R174): the end of the reply under way, and the begin of a reset of kind REQUEST after the ACCEPTED reply to
RESET_PART. -/
def execReplyEnd (s : State) : Outcome :=
  .next
    (match s.hostLine.reply, s.hostLine.htx with
     | some r, some _ => if r.resetAfter then s.endReply.beginReset .request else s.endReply
     | _, _ => s)

end Sys2Proof.Machine
end

