-- ==== Sys2Proof/Machine/ResetEvents.lean ====
section
/-! DEFINITION. The begin and the release of a reset, and the memory check (chapter 11). -/

namespace Sys2Proof.Machine

open Sys2Proof

/-- LINE_HOLD_RESET (R173): the line-hold timer runs in STARTING, READY and FAILED; while it reaches 50 ms HRX is low. -/
def execLineHoldReset (s : State) : Outcome :=
  .next (if s.startUp.part = .inReset then s else (s.beginReset .lineHold).modHostLine fun h => { h with hrxLow := true })

/-- PIN_RESET (R177). -/
def execPinReset (s : State) : Outcome := .next (s.beginReset .pin)

/-- POWER_ON_RESET (R177). -/
def execPowerOnReset (s : State) : Outcome := .next (s.beginReset .powerOn)

/-- A line hold is held while HRX is low (R177), whatever other conditions are held beside it. -/
def State.lineHolds (s : State) (hrxLow : Bool) : Bool := hrxLow && s.startUp.heldLineHold

/-- RESET_RELEASE (R178): the last held condition ends, the straps are read and every block takes its reset values. The sense inputs
keep their levels. A line hold keeps the part in reset while HRX is low; the ends of the other conditions are taken from the command
(R177; log entry 10). -/
def execResetRelease (unit rate : BitVec 2) (hrxLow : Bool) (s : State) : Outcome :=
  .next
    (if s.startUp.part = .inReset ∧ s.lineHolds hrxLow = false then
      State.released s.pending s.startUp.cause unit rate hrxLow (s.supplies.map SupplyMonitor.senseGood)
     else s)

/-- MEMORY_CHECK_PASSED (R179): READY, with ATTN taken anew (R148). -/
def execMemoryCheckPassed (s : State) : Outcome :=
  .next
    (if s.startUp.part = .starting then
      ({ s with startUp := { s.startUp with part := .ready } }).withNotices id
     else s)

/-- MEMORY_CHECK_FAILED (R179, R181). -/
def execMemoryCheckFailed (s : State) : Outcome :=
  .next (if s.startUp.part = .starting then { s with startUp := { s.startUp with part := .failed } } else s)

end Sys2Proof.Machine
end

