-- ==== Sys2Proof/Machine/SupplyEvents.lean ====
section
/-! DEFINITION. The events of a Supply Monitor (6.2 to 6.5): the sense input, the supply fault, the settle end and the recovery. -/

namespace Sys2Proof.Machine

open Sys2Proof

/-- The monitor after its sense input takes a level (R108, R109), by the state and wait of its trunk. -/
def SupplyMonitor.sense (good : Bool) (c : TrunkControl) (m : SupplyMonitor) : SupplyMonitor :=
  if m.power then
    { m with
      senseGood := good
      supplyLow := !good
      faultFilter := !good && decide (c.state ≠ .down)
      settleTimer := good && decide (c.state = .active) && decide (c.wait = .settle)
      recoveryTimer := good && decide (c.state = .down) }
  else { m with senseGood := good }

/-- SENSE_CHANGE (R108): a level equal to the present one is no change. -/
def execSenseChange (t : TrunkId) (good : Bool) (s : State) : Outcome :=
  .next (if s.supplies[t].senseGood = good then s else s.modSupply t (SupplyMonitor.sense good s.trunks[t]))

/-- A supply fault seen by the Notice Unit (R109): TRUNK_DOWN is latched and the trunk's fault-seen flag set. -/
def State.faultNotice (t : TrunkId) (s : State) : State :=
  s.withNotices fun n => { (n.raise .trunkDown) with faultSeen := upd n.faultSeen t fun _ => true }

/-- A supply fault in ACTIVE or QUIET (R115): the exchange is aborted, every QUEUED and ACTIVE order ends TRUNK_DOWN whatever its
mark, and the trunk is DOWN. -/
def State.faultRunning (t : TrunkId) (s : State) : State :=
  let s := s.abortExchange t
  let s := forAll (fun tag => State.endOrder tag .trunkDown 0) (s.trunkQueueTags t) s
  let s := s.modTrunk t fun c => { c with state := .down, wait := .recovery }
  let s := s.modSupply t fun m => { m with faultFilter := false, settleTimer := false }
  let s := s.clearBackoffs t
  let s := s.modMeter t fun m => { m with wasDown := true }
  s.faultNotice t

/-- A supply fault in STOPPING (R116): the exchange is aborted, the order it served ends CANCELLED, and the trunk is DISABLED. -/
def State.faultStopping (t : TrunkId) (s : State) : State :=
  let order := s.engines[t].exch.bind Exchange.order
  let s := s.abortExchange t
  let s := match order with | some tag => s.endOrder tag .cancelled 0 | none => s
  (s.enterDisabled t).faultNotice t

/-- The fault filter reaches 20 ms (R109). -/
def State.supplyFault (t : TrunkId) (s : State) : State :=
  if s.supplies[t].faultFilter then
    match s.trunks[t].state with
    | .active => s.faultRunning t
    | .quiet => s.faultRunning t
    | .stopping => s.faultStopping t
    | .disabled => s
    | .down => s
  else s

/-- SUPPLY_FAULT. -/
def execSupplyFault (t : TrunkId) (s : State) : Outcome := .next (whenReady (State.supplyFault t) s)

/-- The settle timer reaches 500 ms (R111), with the trunk-free event that may follow. -/
def State.settleEnd (t : TrunkId) (s : State) : State :=
  if s.supplies[t].settleTimer ∧ s.trunks[t].state = .active ∧ s.trunks[t].wait = .settle then
    ((s.modSupply t fun m => { m with settleTimer := false }).modTrunk t fun c => { c with wait := .none }).trunkFree t
  else s

/-- SETTLE_END. -/
def execSettleEnd (t : TrunkId) (s : State) : Outcome := .next (whenReady (State.settleEnd t) s)

/-- The recovery timer reaches 500 ms (R117), with the trunk-free event that may follow. -/
def State.recover (t : TrunkId) (s : State) : State :=
  if s.supplies[t].recoveryTimer ∧ s.trunks[t].state = .down then
    (((s.modSupply t fun m => { m with recoveryTimer := false }).enterActive t .none).latch .trunkRestored).trunkFree t
  else s

/-- TRUNK_RECOVERY. -/
def execTrunkRecovery (t : TrunkId) (s : State) : Outcome := .next (whenReady (State.recover t) s)

end Sys2Proof.Machine
end

