-- ==== Sys2Proof/Machine/TickEvents.lean ====
section
/-! DEFINITION. The tick event and what the blocks that act on time do at it (R151), each a command (log entry 4). -/

namespace Sys2Proof.Machine

open Sys2Proof

/-- TICK (R151). -/
def execTick (s : State) : Outcome := .next (whenReady State.tickEvent s)

/-- ORDER_EXPIRY (R24): the orders that expire at one tick event end in ascending tag order, so the command acts when no lower tag's
claim is still to act (log entry 21). -/
def execOrderExpiry (tag : Byte) (s : State) : Outcome :=
  .next (whenReady (fun s => if s.nextExpiry = some (.expiry tag) then s.takeClaim (.expiry tag) else s) s)

/-- BUSY_BACKOFF_EXPIRY (R80). -/
def execBusyBackoffExpiry (n : NodeId) (s : State) : Outcome := .next (whenReady (State.takeClaim (.backoff n)) s)

/-- POLL_DUE (R81). -/
def execPollDue (n : NodeId) (s : State) : Outcome := .next (whenReady (State.takeClaim (.poll n)) s)

/-- HEAD_RECORD_AGED (R135). -/
def execHeadRecordAged (s : State) : Outcome := .next (whenReady (State.takeClaim .headAged) s)

/-- INTERVAL_END (R152). -/
def execIntervalEnd (s : State) : Outcome := .next (whenReady (State.takeClaim .intervalEnd) s)

end Sys2Proof.Machine
end

