-- ==== Sys2Proof/Machine/TrunkEvents.lean ====
section
/-! DEFINITION. The events of a Trunk Engine (3.4 to 3.6): the end of a frame, the reply's bytes, its timers, and the guard. -/

namespace Sys2Proof.Machine

open Sys2Proof

/-- The last byte of a frame has been sent (R53, R69): an announce ends there, with a 4-byte-time guard or, on a STOPPING trunk,
with the entry to DISABLED (R112); any other exchange awaits its reply. -/
def State.frameSent (t : TrunkId) (s : State) : State :=
  match s.engines[t].phase, s.engines[t].exch with
  | .sending, some x =>
    if x.node.isSome then s.modEngine t fun e => { e with phase := .awaiting }
    else if s.trunks[t].state = .stopping then s.enterDisabled t
    else s.modEngine t fun e => { e with phase := .guard, exch := none, guardTimes := 4 }
  | _, _ => s

/-- FRAME_SENT. -/
def execFrameSent (t : TrunkId) (s : State) : Outcome := .next (whenReady (State.frameSent t) s)

/-- The end of an attempt on a trunk in this exchange state, with this classification; nothing in any other exchange state. -/
def State.attemptEndIn (t : TrunkId) (phase : EnginePhase) (fault : Bool) (c : ReplyClass) (s : State) : State :=
  match s.engines[t].exch with
  | some x =>
    if s.engines[t].phase = phase ∧ s.engines[t].rxFault = fault then s.attemptEnd t x c else s
  | none => s

/-- REPLY_START_TIMEOUT (R54): the attempt is NO_START. -/
def execReplyStartTimeout (t : TrunkId) (s : State) : Outcome :=
  .next (whenReady (State.attemptEndIn t .awaiting false .noStart) s)

/-- Whether the bytes of a reply are complete: 8 + L of them (R55). -/
def replyComplete (bs : List Byte) : Bool := decide (6 ≤ bs.length) && decide (bs.length = 8 + payloadLength bs)

/-- A fault found early in a reply of these bytes (R55): the lead byte, the framing error of the last byte, the length. -/
def replyFault (bs : List Byte) (framingError : Bool) : Bool :=
  decide (byteAt bs 0 ≠ 0x69) || framingError ||
    (decide (bs.length = 6) && decide (Config.trunkPayloadLimit < payloadLength bs))

/-- A byte of the reply collected (R55): the reply ends complete and is classified, or a fault is found early, or it goes on. -/
def State.collect (t : TrunkId) (x : Exchange) (b : Byte) (framingError : Bool) (s : State) : State :=
  let bs := s.engines[t].rx ++ [b]
  if replyComplete bs then
    s.attemptEnd t x (if framingError then .broken else classify x (s.askedBy x) bs)
  else
    s.modEngine t fun e => { e with phase := .receiving, rx := bs, rxFault := replyFault bs framingError }

/-- A byte on a trunk's RX (R47, R54, R55): ignored outside AWAITING and RECEIVING, and discarded after a fault found early. -/
def State.trunkByte (t : TrunkId) (b : Byte) (framingError : Bool) (s : State) : State :=
  match s.engines[t].exch with
  | some x =>
    if (s.engines[t].phase = .awaiting ∨ s.engines[t].phase = .receiving) ∧ s.engines[t].rxFault = false then
      s.collect t x b framingError
    else s
  | none => s

/-- TRUNK_BYTE_RECEIVED. -/
def execTrunkByteReceived (t : TrunkId) (b : Byte) (framingError : Bool) (s : State) : Outcome :=
  .next (whenReady (State.trunkByte t b framingError) s)

/-- REPLY_GAP_TIMEOUT (R55, R56): the reply under way is BROKEN. -/
def execReplyGapTimeout (t : TrunkId) (s : State) : Outcome :=
  .next (whenReady (State.attemptEndIn t .receiving false .broken) s)

/-- FAULT_WAIT_END (R55, R56): the wait after a fault found early ends and the reply is BROKEN. -/
def execFaultWaitEnd (t : TrunkId) (s : State) : Outcome :=
  .next (whenReady (State.attemptEndIn t .receiving true .broken) s)

/-- GUARD_END (R59). -/
def execGuardEnd (t : TrunkId) (s : State) : Outcome :=
  .next (whenReady (fun s => if s.engines[t].phase = .guard then s.guardEnd t else s) s)

end Sys2Proof.Machine
end

