-- ==== Sys2Proof/Machine/Dispatch.lean ====
section
/-! DEFINITION. The meaning of a command: one arm for each constructor of Instr. -/

namespace Sys2Proof.Machine

open Sys2Proof

/-- The effect of a command on everything but the queue of commands. -/
def exec (i : Instr) (s : State) : Host.Outcome State Fault Refusal :=
  match i with
  | .readIdentity p => Sys2Proof.Machine.execReadIdentity p s
  | .readStatus p => Sys2Proof.Machine.execReadStatus p s
  | .resetPart p => Sys2Proof.Machine.execResetPart p s
  | .setNoticeMask p => Sys2Proof.Machine.execSetNoticeMask p s
  | .clearNotices p => Sys2Proof.Machine.execClearNotices p s
  | .submitOrder p => Sys2Proof.Machine.execSubmitOrder p s
  | .fillOrder p => Sys2Proof.Machine.execFillOrder p s
  | .commitOrder p => Sys2Proof.Machine.execCommitOrder p s
  | .cancelOrder p => Sys2Proof.Machine.execCancelOrder p s
  | .readOrder p => Sys2Proof.Machine.execReadOrder p s
  | .readFetched p => Sys2Proof.Machine.execReadFetched p s
  | .retireOrder p => Sys2Proof.Machine.execRetireOrder p s
  | .takeCompletions p => Sys2Proof.Machine.execTakeCompletions p s
  | .setCompletionNotice p => Sys2Proof.Machine.execSetCompletionNotice p s
  | .readAttention p => Sys2Proof.Machine.execReadAttention p s
  | .clearAttention p => Sys2Proof.Machine.execClearAttention p s
  | .readNode p => Sys2Proof.Machine.execReadNode p s
  | .enableNode p => Sys2Proof.Machine.execEnableNode p s
  | .disableNode p => Sys2Proof.Machine.execDisableNode p s
  | .restoreNode p => Sys2Proof.Machine.execRestoreNode p s
  | .setTrunk p => Sys2Proof.Machine.execSetTrunk p s
  | .readTrunk p => Sys2Proof.Machine.execReadTrunk p s
  | .enableTrunk p => Sys2Proof.Machine.execEnableTrunk p s
  | .disableTrunk p => Sys2Proof.Machine.execDisableTrunk p s
  | .setModeCode p => Sys2Proof.Machine.execSetModeCode p s
  | .readReport p => Sys2Proof.Machine.execReadReport p s
  | .setInterval p => Sys2Proof.Machine.execSetInterval p s
  | .syncInterval p => Sys2Proof.Machine.execSyncInterval p s
  | .resetPeak p => Sys2Proof.Machine.execResetPeak p s
  | .hostByteReceived b fe => Sys2Proof.Machine.execHostByteReceived b fe s
  | .gapTimeout => Sys2Proof.Machine.execGapTimeout s
  | .replyStart => Sys2Proof.Machine.execReplyStart s
  | .replyEnd => Sys2Proof.Machine.execReplyEnd s
  | .lineHoldReset => Sys2Proof.Machine.execLineHoldReset s
  | .pinReset => Sys2Proof.Machine.execPinReset s
  | .powerOnReset => Sys2Proof.Machine.execPowerOnReset s
  | .resetRelease u r low => Sys2Proof.Machine.execResetRelease u r low s
  | .memoryCheckPassed => Sys2Proof.Machine.execMemoryCheckPassed s
  | .memoryCheckFailed => Sys2Proof.Machine.execMemoryCheckFailed s
  | .tick => Sys2Proof.Machine.execTick s
  | .orderExpiry tag => Sys2Proof.Machine.execOrderExpiry tag s
  | .busyBackoffExpiry n => Sys2Proof.Machine.execBusyBackoffExpiry n s
  | .pollDue n => Sys2Proof.Machine.execPollDue n s
  | .headRecordAged => Sys2Proof.Machine.execHeadRecordAged s
  | .intervalEnd => Sys2Proof.Machine.execIntervalEnd s
  | .frameSent t => Sys2Proof.Machine.execFrameSent t s
  | .replyStartTimeout t => Sys2Proof.Machine.execReplyStartTimeout t s
  | .trunkByteReceived t b fe => Sys2Proof.Machine.execTrunkByteReceived t b fe s
  | .replyGapTimeout t => Sys2Proof.Machine.execReplyGapTimeout t s
  | .faultWaitEnd t => Sys2Proof.Machine.execFaultWaitEnd t s
  | .guardEnd t => Sys2Proof.Machine.execGuardEnd t s
  | .senseChange t good => Sys2Proof.Machine.execSenseChange t good s
  | .supplyFault t => Sys2Proof.Machine.execSupplyFault t s
  | .settleEnd t => Sys2Proof.Machine.execSettleEnd t s
  | .trunkRecovery t => Sys2Proof.Machine.execTrunkRecovery t s

end Sys2Proof.Machine
end

