-- ==== Sys2Proof/Safety.lean ====
section
/-! DEFINITION. What the statements speak in: when a request is heard and what its answer looks like, and the invariants that every
step keeps. -/

namespace Sys2Proof.Machine

open Sys2Proof

/-! ## Requests heard and answered -/

/-- A request that arrives now is taken: the part is not in reset and no reply is under way (R171, R172). -/
abbrev State.hears (s : State) : Prop := s.startUp.part ≠ .inReset ∧ s.hostLine.receiver ≠ .replying

/-- A request that arrives now passes the part-state check of every kind (R180). -/
abbrev State.serves (s : State) : Prop := s.startUp.part = .ready ∧ s.hostLine.receiver ≠ .replying

/-- The state with the Host Line Unit REPLYING to a request of this kind and payload (R169, R172). -/
def State.taken (s : State) (kind : Byte) (p : List Byte) : State :=
  { s with hostLine := { s.hostLine with
      receiver := .replying, buffer := requestFrame s.hostLine.unit kind p, gapTimer := false,
      hrxLow := false, lineHold := false, replyErrorCounted := false } }

/-- The state with the reply fixed (R171). -/
def State.withReply (s : State) (kind : Byte) (o : OutcomeCode) (reply : List Byte) (resetAfter : Bool) : State :=
  { s with hostLine := { s.hostLine with reply := some ⟨kind, o, reply, resetAfter⟩ } }

/-- The state after a request is taken that changes nothing but its own reply: a refusal or a read (R171). -/
def State.answered (s : State) (kind : Byte) (p : List Byte) (o : OutcomeCode) (reply : List Byte) : State :=
  (s.taken kind p).withReply kind o reply false

/-- The bytes of a frame received one after another on HRX, without a framing error. -/
def receiveBytes : List Byte → State → Host.Outcome State Fault Refusal
  | [], s => .next s
  | b :: rest, s =>
    match exec (.hostByteReceived b false) s with
    | .next t => receiveBytes rest t
    | .fault f => .fault f
    | .refused r => .refused r

/-- The two-byte number at place `i` of a payload, low byte first. -/
def pairAt (p : List Byte) (i : Nat) : Nat := (byteAt p i).toNat + 256 * (byteAt p (i + 1)).toNat

/-- The refusals that every kind of request but READ_STATUS, READ_IDENTITY and RESET_PART shares, in the order of R171: the length,
the field ranges, and the part state (R180). A refused request changes nothing but its own reply. -/
def RefusesBadForms (mk : List Byte → Instr) (kind : Byte) (lengthOk fieldsOk : List Byte → Prop) : Prop :=
  ∀ (p : List Byte) (s : State), s.hears → p.length ≤ 200 →
    (¬ lengthOk p → exec (mk p) s = .next (s.answered kind p .badLength [])) ∧
    (lengthOk p → ¬ fieldsOk p → exec (mk p) s = .next (s.answered kind p .badField [])) ∧
    (lengthOk p → fieldsOk p → s.startUp.part = .starting → exec (mk p) s = .next (s.answered kind p .starting [])) ∧
    (lengthOk p → fieldsOk p → s.startUp.part = .failed → exec (mk p) s = .next (s.answered kind p .failed []))

/-- The Notice Unit with these flags latched besides, and ATTN taken anew (R143, R148). -/
def State.flagged (s : State) (set : Word) : State :=
  { s with notices := { s.notices with
      flags := s.notices.flags ||| set
      attn := decide (s.startUp.part = .ready) && decide ((s.notices.flags ||| set) &&& s.notices.mask ≠ 0) } }

/-- The Host Line Unit after a byte on HRX whose stop bit was good, or not: the level of HRX and the line-hold timer (log entry
20). -/
def State.hrxByte (s : State) (framingError : Bool) : State :=
  { s with hostLine := { s.hostLine with hrxLow := framingError, lineHold := framingError } }

/-- A host line error (R168, R170, R172): the count rises, saturating at 255, and LINE_ERROR is latched. -/
def State.lineErrored (s : State) : State :=
  ({ s with hostLine := { s.hostLine with errorCount := min 255 (s.hostLine.errorCount + 1) } }).flagged 0x0080

/-- The receiver in HUNTING, its buffer empty, the gap timer stopped. -/
def State.hunting (s : State) : State :=
  { s with hostLine := { s.hostLine with receiver := .hunting, buffer := [], gapTimer := false } }

/-- The bytes that wait in the receive buffer with one more. -/
def State.bufferWith (s : State) (b : Byte) : List Byte := s.hostLine.buffer ++ [b]

/-- The byte completes a frame under reception (R167): 5 + L bytes, L in byte 3. -/
abbrev State.completes (s : State) (b : Byte) : Prop :=
  s.startUp.part ≠ .inReset ∧ s.hostLine.receiver = .inFrame ∧ 5 ≤ (s.bufferWith b).length ∧
    (s.bufferWith b).length = 5 + (byteAt (s.bufferWith b) 3).toNat

/-- One of the 29 kind codes of 10.5. -/
def knownKinds : List Byte :=
  [0x01, 0x02, 0x03, 0x08, 0x09, 0x10, 0x11, 0x12, 0x13, 0x14, 0x15, 0x16, 0x18, 0x19, 0x1C, 0x1D, 0x20, 0x21, 0x22, 0x23,
   0x28, 0x29, 0x2A, 0x2B, 0x2C, 0x30, 0x31, 0x32, 0x33]

/-- One flag of the flag set given a value, and ATTN taken anew (R144, R148). -/
def State.levelSet (s : State) (flag : Word) (b : Bool) : State :=
  let flags := if b then s.notices.flags ||| flag else s.notices.flags &&& ~~~flag
  { s with notices := { s.notices with
      flags := flags
      attn := decide (s.startUp.part = .ready) && decide (flags &&& s.notices.mask ≠ 0) } }

/-- The payload of a SUBMIT_ORDER (1.2). -/
def submitPayload (tag : Byte) (n : NodeId) (k : OrderKind) (c : OrderClass) (point length deadline : Word) (seed : Byte)
    (data : List Byte) : List Byte :=
  [tag, byteOf n.val, k.code, c.code] ++ leWord point ++ leWord length ++ leWord deadline ++ [seed, byteOf data.length] ++ data

/-- The field checks of R4 on such a payload; node, kind and class are in range by their types. -/
abbrev submitFieldsOk (tag : Byte) (k : OrderKind) (point length : Word) (seed : Byte) (data : List Byte) : Prop :=
  tag ≠ 0 ∧ k.lengthOk length.toNat = true ∧ data.length = (if k = .pointWrite then length.toNat else 0) ∧
  (k = .pointRead ∨ k = .pointWrite ∨ point = 0) ∧ (k = .echoTest ∨ seed = 0)

/-- The entry of an accepted SUBMIT_ORDER (R6). -/
def submittedEntry (tag : Byte) (n : NodeId) (k : OrderKind) (c : OrderClass) (point length deadline : Word) (seed : Byte)
    (data : List Byte) (now : Word) (chain : List SegId) : Order where
  tag := tag
  node := n
  kind := k
  cls := c
  point := if k = .pointRead ∨ k = .pointWrite then some point else none
  length := length.toNat
  inlineData := data
  seed := if k = .echoTest then some seed else none
  deadline := if deadline = 0 then none else some deadline.toNat
  accepted := now
  chain := chain
  fill := 0
  progress := 0
  retries := 0
  mark := none
  result := none
  nakReason := 0
  endStamp := 0
  state := if k = .bulkSend then .filling else .queued

/-- An order that a new URGENT order is placed behind (R8): an ACTIVE or URGENT one. -/
def State.standsBefore (s : State) (tag : Byte) : Bool :=
  match s.table.find tag with
  | some o => decide (o.state = .active) || decide (o.cls = .urgent)
  | none => false

/-- The queue of a node after an order of this class has entered it (R8). -/
def State.queueWith (s : State) (n : NodeId) (c : OrderClass) (tag : Byte) : List Byte :=
  match c with
  | .urgent => (s.table.queue n).takeWhile s.standsBefore ++ tag :: (s.table.queue n).dropWhile s.standsBefore
  | .routine => s.table.queue n ++ [tag]

/-- The state right after an order has entered QUEUED, before the trunk-free event of the same event (R8, R121, R160; log entry 27):
`q` differs from `h`, which is `s` with its request taken, in the order's entry `o`, its node queue, its woken trunk, the peak
backlog of the trunk, and the pool. -/
abbrev State.entersQueue (s h : State) (o : Order) (q : State) : Prop :=
  let k := trunkOf o.node
  q.table.find o.tag = some o ∧ (∀ v : Byte, v ≠ o.tag → q.table.find v = s.table.find v) ∧
  (∀ m : NodeId, q.table.queue m = if m = o.node then s.queueWith o.node o.cls o.tag else s.table.queue m) ∧
  q.table.backlog = s.table.backlog ∧
  (∀ m : TrunkId, q.trunks[m] = if m = k ∧ s.trunks[k].state = .quiet then
    { s.trunks[k] with state := .active, wait := .none, idleCount := 0 } else s.trunks[m]) ∧
  (∀ m : TrunkId, q.meters[m] = if m = k then { s.meters[k] with peak := max s.meters[k].peak (q.currentBacklog k) }
    else s.meters[m]) ∧
  ((s.table.live.map Order.tag).Nodup → q.currentBacklog k = s.currentBacklog k + 1) ∧
  q = { h with table := q.table, pool := q.pool, trunks := q.trunks, meters := q.meters }

/-- The address of a data position of an order (R32); none past its chain. -/
def dataAddress (chain : List SegId) (pos : Nat) : Option Nat :=
  match chain[pos / 256]? with
  | some g => some (256 * g.val + pos % 256)
  | none => none

/-- The state after an attempt of an exchange with a node that drew no usable reply (R60, R62): the attempt is used up and
classified, and a retry is due after the guard, or the exchange ends in failure. -/
def State.attemptLost (s : State) (t : TrunkId) (n : NodeId) (x : Exchange) (c : ReplyClass) : State :=
  let y : Exchange := { x with
    attempts := x.attempts + 1, busyCount := 0
    noStart := if c = .noStart then x.noStart + 1 else x.noStart
    broken := if c = .broken then x.broken + 1 else x.broken
    stray := if c = .stray then x.stray + 1 else x.stray }
  let allowed := if x.single then 1 else s.trunks[t].config.retryLimit + 1
  if x.attempts + 1 < allowed then
    s.modEngine t fun e => { e with phase := .guard, exch := some y, rx := [], rxFault := false, guardTimes := 2 }
  else s.exchangeEnd t n y .failure 0

/-- The burst of a grant continues at the end of a guard with no retry due (R88). -/
abbrev State.burstContinues (s : State) (t : TrunkId) (n : NodeId) (o : Order) (burst : Nat) : Prop :=
  s.engines[t].grant = some ⟨.order, some n, some o.tag, burst, true⟩ ∧ trunkOf n = t ∧
  burst < s.trunks[t].config.burstLimit ∧ s.table.head n = some o ∧ (o.kind = .bulkSend ∨ o.kind = .bulkFetch) ∧
  o.state = .active ∧ o.mark = none ∧ s.orderInFlight o = false ∧
  (s.nodes[n].state = .unseen ∨ s.nodes[n].state = .online) ∧ s.nodeScheds[n].inForce = false ∧
  (s.trunks[t].state = .active ∨ s.trunks[t].state = .quiet)

/-- The lengths of an ACK that its exchange allows (R58). -/
abbrev ackFits (type : ExchangeType) (asked length : Nat) : Prop :=
  (type = .poll ∨ type = .put ∨ type = .sendBlock ∨ type = .resetNode → length = 0) ∧
  (type = .get ∨ type = .echo → length = asked) ∧ (type = .fetchBlock → length ≤ asked) ∧ type ≠ .announce

/-- An invariant that every step keeps. -/
def KeptByStep (inv : State → Prop) : Prop := ∀ s t : State, inv s → step s = .next t → inv t

/-! ## Invariants -/

/-- After every event the backlog is empty or the Completion Queue holds 32 records (R130, R125). -/
abbrev State.postingInv (s : State) : Prop :=
  s.completions.records.length ≤ 32 ∧ (s.table.backlog = [] ∨ s.completions.records.length = 32)

/-- ATTN and the two level flags follow their conditions (R135, R142, R144, R148), and the positions 9 to 15 are zero (8.3). -/
abbrev State.noticesInv (s : State) : Prop :=
  s.notices.attn = (decide (s.startUp.part = .ready) && decide (s.notices.flags &&& s.notices.mask ≠ 0)) ∧
  s.notices.flags.getLsbD 0 = s.completions.level ∧
  s.notices.flags.getLsbD 1 = s.attention.any (fun e => !e.seen) ∧
  s.notices.flags &&& 0xFE00 = 0 ∧ s.notices.mask &&& 0xFE00 = 0

/-- The segment memory is in its canonical form and lies within the 96 segments of 256 bytes (R29). -/
abbrev State.memoryInv (s : State) : Prop :=
  Memory.wf s.pool.mem ∧ ∀ c ∈ s.pool.mem, c.1 < 96 * 256

/-- The free list holds exactly the FREE segments, ascending (R29, R30). -/
abbrev State.freeListInv (s : State) : Prop :=
  s.pool.freeList = allSegments.filter fun g => decide ((s.pool.seg g).owner = .free)

/-- The interval (R152) and the tick count of a part that is not yet READY or is FAILED (R151, R179, R181). -/
def State.intervalInv (s : State) : Prop :=
  100 ≤ s.interval.length ∧ s.interval.length ≤ 6000 ∧ s.interval.position < s.interval.length ∧
  (∀ n, s.interval.pendingLength = some n → 100 ≤ n ∧ n ≤ 6000) ∧
  ((s.startUp.part = .starting ∨ s.startUp.part = .failed) → s.interval.tick = 0 ∧ s.interval.position = 0)

/-- What each trunk state allows (R107, R108, R52, R78), outside reset. -/
abbrev State.trunkInv (s : State) : Prop :=
  ∀ t : TrunkId,
    (s.trunks[t].wait = .settle → s.trunks[t].state = .active) ∧
    (s.trunks[t].wait = .recovery ↔ s.trunks[t].state = .down) ∧
    (s.startUp.part ≠ .inReset →
      (s.supplies[t].power = true ↔ s.trunks[t].state ≠ .disabled) ∧
      (s.trunks[t].state = .stopping → s.engines[t].exch ≠ none)) ∧
    (s.supplies[t].power = true → s.supplies[t].supplyLow = !s.supplies[t].senseGood) ∧
    (s.supplies[t].power = false → s.supplies[t].supplyLow = false ∧ s.supplies[t].faultFilter = false ∧
      s.supplies[t].settleTimer = false ∧ s.supplies[t].recoveryTimer = false) ∧
    (s.engines[t].exch ≠ none →
      s.trunks[t].state = .active ∨ s.trunks[t].state = .quiet ∨ s.trunks[t].state = .stopping) ∧
    (s.engines[t].phase = .idle → s.engines[t].exch = none) ∧
    (s.scheds[t].announce = true → s.trunks[t].state = .active ∨ s.trunks[t].state = .quiet)

/-- The outputs and the trunks while no trunk can be in service (R178, R179, R181): in reset, STARTING and FAILED. -/
def State.quietInv (s : State) : Prop :=
  s.startUp.part ≠ .ready →
    s.notices.attn = false ∧
    (s.startUp.part = .inReset → s.hostLine.htx = none ∧ s.hostLine.reply = none ∧ s.hostLine.receiver = .hunting) ∧
    ∀ t : TrunkId, s.supplies[t].power = false ∧ s.engines[t] = ⟨.idle, none, none, [], false, 0⟩ ∧
      (s.startUp.part ≠ .inReset → s.trunks[t].state = .disabled)

/-- The receiver, its buffer and its reply agree (R165, R167, R172). -/
abbrev State.hostLineInv (s : State) : Prop :=
  (s.hostLine.receiver = .replying ↔ s.hostLine.reply ≠ none) ∧
  (s.hostLine.gapTimer = true ↔ s.hostLine.receiver = .inFrame) ∧
  (s.hostLine.receiver = .hunting → s.hostLine.buffer = []) ∧
  s.hostLine.buffer.length ≤ 206 ∧
  (s.hostLine.receiver = .inFrame → s.hostLine.buffer ≠ [] ∧
    (4 ≤ s.hostLine.buffer.length →
      s.hostLine.buffer.length < 5 + (byteAt s.hostLine.buffer 3).toNat ∧ (byteAt s.hostLine.buffer 3).toNat ≤ 200)) ∧
  (s.hostLine.htx ≠ none → s.hostLine.reply ≠ none) ∧
  s.hostLine.errorCount ≤ 255

/-- No node queue holds more than 6 orders (R7). -/
abbrev State.queueInv (s : State) : Prop := ∀ n : NodeId, (s.table.queue n).length ≤ 6

/-- A state in which an order stands in its node queue (R7). -/
abbrev OrderState.inQueue (q : OrderState) : Prop := q = .queued ∨ q = .active

/-- A backlog record stands for this entry: the entry is ENDED and the record is the one built at its end (R126, R128). -/
abbrev CompletionRecord.standsFor (c : CompletionRecord) (o : Order) : Prop :=
  o.state = .ended ∧ c.tag = o.tag ∧ c.node = o.node ∧ c.kind = o.kind ∧ some c.result = o.result ∧ c.nakReason = o.nakReason ∧
  c.progress = o.progress ∧ c.retries = o.retries ∧ c.endStamp = o.endStamp

/-- The Order Table, the node queues, the backlog and the exchanges in flight agree (R1, R2, R7, R128). -/
structure State.OrdersInv (s : State) : Prop where
  /-- No two live entries hold the same tag (R2). -/
  tags : (s.table.live.map Order.tag).Nodup
  /-- A node queue holds no order twice. -/
  queueOnce : ∀ n : NodeId, (s.table.queue n).Nodup
  /-- A node queue holds nothing but QUEUED and ACTIVE orders of its node. -/
  queueOnly : ∀ n : NodeId, ∀ tag ∈ s.table.queue n, ∃ o ∈ s.table.live, o.tag = tag ∧ o.node = n ∧ o.state.inQueue
  /-- Every QUEUED and ACTIVE order stands in its own node's queue. -/
  queueAll : ∀ o ∈ s.table.live, o.state.inQueue → o.tag ∈ s.table.queue o.node
  /-- An ACTIVE order stands at the head, so that a queue has at most one. -/
  activeHead : ∀ o ∈ s.table.live, o.state = .active → (s.table.queue o.node).head? = some o.tag
  /-- The backlog holds no entry twice. -/
  backlogOnce : (s.table.backlog.map CompletionRecord.tag).Nodup
  /-- A backlog record stands for an ENDED entry. -/
  backlogOnly : ∀ c ∈ s.table.backlog, ∃ o ∈ s.table.live, c.standsFor o
  /-- Every ENDED entry has its record in the backlog. -/
  backlogAll : ∀ o ∈ s.table.live, o.state = .ended → ∃ c ∈ s.table.backlog, c.tag = o.tag
  /-- An exchange in flight for an order serves an ACTIVE order of its own trunk (R1, R52). -/
  inFlight : ∀ (t : TrunkId) (x : Exchange) (tag : Byte), s.engines[t].exch = some x → x.order = some tag →
    ∃ o ∈ s.table.live, o.tag = tag ∧ o.state = .active ∧ trunkOf o.node = t

/-- The exchange records, the grants and the held exchanges belong to their trunk and their node (R52, R63, R87). -/
structure State.ExchangesInv (s : State) : Prop where
  /-- The exchange in flight of an engine is with a node of its trunk, or an ANNOUNCE. -/
  ownTrunk : ∀ (t : TrunkId) (x : Exchange) (n : NodeId), s.engines[t].exch = some x → x.node = some n → trunkOf n = t
  /-- An exchange that serves an order is with the order's node and of the order's kind (3.3). -/
  ofOrder : ∀ (t : TrunkId) (x : Exchange) (o : Order), s.engines[t].exch = some x → o ∈ s.table.live → x.order = some o.tag →
    x.node = some o.node ∧ x.type = o.kind.exchangeType
  /-- The grant of an engine is for a node of its trunk, or for an ANNOUNCE. -/
  granted : ∀ (t : TrunkId) (g : Grant) (n : NodeId), s.engines[t].grant = some g → g.node = some n → trunkOf n = t
  /-- A held exchange belongs to the ACTIVE head of its node (R63). -/
  heldHead : ∀ (n : NodeId) (h : HeldExchange), s.held[n] = some h → (s.table.queue n).head? = some h.tag ∧
    ∃ o ∈ s.table.live, o.tag = h.tag ∧ o.node = n ∧ o.state = .active ∧ h.type = o.kind.exchangeType

/-- Every segment is FREE or in the chain of exactly one live order, whose tag it carries, on the side that the order's state
gives it (R29, R32, R33, R38, R41 to R43). -/
structure State.ChainsInv (s : State) : Prop where
  /-- A chain holds no segment twice. -/
  once : ∀ o ∈ s.table.live, o.chain.Nodup
  /-- A segment of a chain is not FREE and carries the tag of its order. -/
  carried : ∀ o ∈ s.table.live, ∀ g ∈ o.chain, (s.pool.seg g).owner ≠ .free ∧ (s.pool.seg g).tag = some o.tag
  /-- No two live orders hold the same segment. -/
  apart : ∀ o ∈ s.table.live, ∀ p ∈ s.table.live, ∀ g : SegId, g ∈ o.chain → g ∈ p.chain → o.tag = p.tag
  /-- A segment that is not FREE is in a chain. -/
  held : ∀ g : SegId, (s.pool.seg g).owner ≠ .free → ∃ o ∈ s.table.live, g ∈ o.chain
  /-- A FREE segment has no tag and holds no data. -/
  free : ∀ g : SegId, (s.pool.seg g).owner = .free → s.pool.seg g = ⟨.free, none, 0⟩
  /-- A FILLING order is a BULK_SEND with the whole of its chain, all of it HOST_SIDE. -/
  filling : ∀ o ∈ s.table.live, o.state = .filling →
    o.kind = .bulkSend ∧ o.chain.length = (o.length + 255) / 256 ∧ ∀ g ∈ o.chain, (s.pool.seg g).owner = .hostSide
  /-- A committed BULK_SEND is TRUNK_SIDE until it ends. -/
  sending : ∀ o ∈ s.table.live, o.kind = .bulkSend → o.state.inQueue → ∀ g ∈ o.chain, (s.pool.seg g).owner = .trunkSide
  /-- A BULK_FETCH in its node queue has its whole chain; its progress is short of its length and ends at a segment; the segments
  before it are full and HOST_SIDE, those from it on are TRUNK_SIDE and empty (R31, R41, R42). -/
  landing : ∀ o ∈ s.table.live, o.kind = .bulkFetch → o.state.inQueue →
    o.chain.length = (o.length + 255) / 256 ∧ o.progress % 256 = 0 ∧ o.progress < o.length ∧
    ∀ (i : Nat) (g : SegId), o.chain[i]? = some g →
      s.pool.seg g = if i < o.progress / 256 then ⟨.hostSide, some o.tag, 256⟩ else ⟨.trunkSide, some o.tag, 0⟩
  /-- An ended BULK_FETCH is HOST_SIDE. -/
  fetched : ∀ o ∈ s.table.live, o.kind = .bulkFetch → o.state = .ended ∨ o.state = .parked →
    ∀ g ∈ o.chain, (s.pool.seg g).owner = .hostSide
  /-- Only a BULK_FETCH is PARKED. -/
  parked : ∀ o ∈ s.table.live, o.state = .parked → o.kind = .bulkFetch

end Sys2Proof.Machine
end

