-- ==== Sys2Proof/WellFormed.lean ====
section
/-! DEFINITION. Which commands are well formed: those the world outside can send. -/

namespace Sys2Proof

/-- The payload operand of a host request, with the request's code of table 10.5; none for the events. -/
def Instr.request? : Instr → Option (Byte × List Byte)
  | .readIdentity p => some (0x01#8, p)
  | .readStatus p => some (0x02#8, p)
  | .resetPart p => some (0x03#8, p)
  | .setNoticeMask p => some (0x08#8, p)
  | .clearNotices p => some (0x09#8, p)
  | .submitOrder p => some (0x10#8, p)
  | .fillOrder p => some (0x11#8, p)
  | .commitOrder p => some (0x12#8, p)
  | .cancelOrder p => some (0x13#8, p)
  | .readOrder p => some (0x14#8, p)
  | .readFetched p => some (0x15#8, p)
  | .retireOrder p => some (0x16#8, p)
  | .takeCompletions p => some (0x18#8, p)
  | .setCompletionNotice p => some (0x19#8, p)
  | .readAttention p => some (0x1C#8, p)
  | .clearAttention p => some (0x1D#8, p)
  | .readNode p => some (0x20#8, p)
  | .enableNode p => some (0x21#8, p)
  | .disableNode p => some (0x22#8, p)
  | .restoreNode p => some (0x23#8, p)
  | .setTrunk p => some (0x28#8, p)
  | .readTrunk p => some (0x29#8, p)
  | .enableTrunk p => some (0x2A#8, p)
  | .disableTrunk p => some (0x2B#8, p)
  | .setModeCode p => some (0x2C#8, p)
  | .readReport p => some (0x30#8, p)
  | .setInterval p => some (0x31#8, p)
  | .syncInterval p => some (0x32#8, p)
  | .resetPeak p => some (0x33#8, p)
  | .hostByteReceived _ _ => none
  | .gapTimeout => none
  | .replyStart => none
  | .replyEnd => none
  | .lineHoldReset => none
  | .pinReset => none
  | .powerOnReset => none
  | .resetRelease _ _ _ => none
  | .memoryCheckPassed => none
  | .memoryCheckFailed => none
  | .tick => none
  | .orderExpiry _ => none
  | .busyBackoffExpiry _ => none
  | .pollDue _ => none
  | .headRecordAged => none
  | .intervalEnd => none
  | .frameSent _ => none
  | .replyStartTimeout _ => none
  | .trunkByteReceived _ _ _ => none
  | .replyGapTimeout _ => none
  | .faultWaitEnd _ => none
  | .guardEnd _ => none
  | .senseChange _ _ => none
  | .supplyFault _ => none
  | .settleEnd _ => none
  | .trunkRecovery _ => none

/-- A request frame carries at most 200 payload bytes (10.2, byte 3). -/
def Instr.payloadFits (i : Instr) : Bool :=
  match i.request? with
  | some (_, p) => decide (p.length ≤ Config.hostPayloadLimit)
  | none => true

/-- A tag is 1 to 255 (00_scope.md, tags). -/
def Instr.tagValid (i : Instr) : Bool :=
  match i with
  | .orderExpiry tag => tag != 0#8
  | _ => true

/-- The command is one the outside world can send: the two checks above. Node and trunk numbers and the strap levels are in
range by their types. -/
def Instr.wellFormed (i : Instr) : Bool := i.payloadFits && i.tagValid

end Sys2Proof
end

