-- ==== Sys2Proof/Certificates/Slice0/Obligations.lean ====
section
/-! DEFINITION. The statements for the provers, by block of the part. OBLIGATIONS.json lists them with their rules. -/

open Sys2Proof Sys2Proof.Machine

/-! ## The machine -/

/-- The command at the front of the queue is run on the state with the queue's rest; an empty queue idles (log entry 3). -/
def Obligations.StepRunsFrontCommand : Prop :=
  (∀ (c : Instr) (rest : List Instr) (s : State),
    step { s with pending := c :: rest } = exec c { s with pending := rest }) ∧
  (∀ s : State, s.pending = [] → step s = .next s)

/-- Every command gives a next state, and no command touches the queue. -/
def Obligations.EveryCommandRunsAndLeavesTheQueue : Prop :=
  ∀ (i : Instr) (s : State), ∃ t : State, exec i s = .next t ∧ t.pending = s.pending

/-- A request command is its frame received byte by byte from HUNTING (R167, R169, R171; log entry 1). -/
def Obligations.RequestCommandIsItsFrameReceived : Prop :=
  ∀ (i : Instr) (kind : Byte) (p : List Byte) (s : State), i.request? = some (kind, p) → p.length ≤ 200 →
    s.startUp.part ≠ .inReset → s.hostLine.receiver = .hunting →
    receiveBytes (requestFrame s.hostLine.unit kind p) s = exec i s

/-- A refused request changes nothing but its own reply, whose payload is empty (R171, R166). -/
def Obligations.RefusedRequestChangesNothing : Prop :=
  ∀ (i : Instr) (kind : Byte) (p : List Byte) (s t : State) (r : Reply), i.request? = some (kind, p) → s.hears →
    p.length ≤ 200 → exec i s = .next t → t.hostLine.reply = some r → r.outcome ≠ .accepted → r.outcome ≠ .cancelPending →
    r.kind = kind ∧ r.payload = [] ∧ t = s.answered kind p r.outcome []

/-! ## The host line -/

/-- A byte in HUNTING and a byte stored in IN_FRAME (R167), and the four discards of R168. The HRX level is log entry 20. -/
def Obligations.HostByteCollectedOrDiscarded : Prop :=
  (∀ (b : Byte) (fe : Bool) (s : State), s.startUp.part ≠ .inReset → s.hostLine.receiver = .hunting →
    (¬ (b = 0xB5 ∧ fe = false) → exec (.hostByteReceived b fe) s = .next (s.hrxByte fe)) ∧
    (b = 0xB5 → fe = false → exec (.hostByteReceived b fe) s = .next
      { s with hostLine := { s.hostLine with
          receiver := .inFrame, buffer := [0xB5], gapTimer := true, hrxLow := false, lineHold := false } })) ∧
  (∀ (b : Byte) (s : State), s.startUp.part ≠ .inReset → s.hostLine.receiver = .inFrame →
    ((s.bufferWith b).length < 4 ∨ ((s.bufferWith b).length = 4 ∧ b.toNat ≤ 200) ∨
      (4 < (s.bufferWith b).length ∧ (s.bufferWith b).length ≠ 5 + (byteAt (s.bufferWith b) 3).toNat)) →
    exec (.hostByteReceived b false) s = .next
      { s with hostLine := { s.hostLine with
          buffer := s.bufferWith b, gapTimer := true, hrxLow := false, lineHold := false } }) ∧
  (∀ s : State, s.hostLine.receiver = .inFrame → exec .gapTimeout s = .next s.hunting.lineErrored) ∧
  (∀ (b : Byte) (s : State), s.startUp.part ≠ .inReset → s.hostLine.receiver = .inFrame →
    exec (.hostByteReceived b true) s = .next (s.hrxByte true).hunting.lineErrored) ∧
  (∀ (b : Byte) (s : State), s.startUp.part ≠ .inReset → s.hostLine.receiver = .inFrame →
    (s.bufferWith b).length = 4 → 200 < b.toNat →
    exec (.hostByteReceived b false) s = .next (s.hrxByte false).hunting.lineErrored) ∧
  (∀ (b : Byte) (s : State), s.completes b → byteSum (s.bufferWith b) ≠ 0xA5 →
    exec (.hostByteReceived b false) s = .next (s.hrxByte false).hunting.lineErrored)

/-- A good complete frame by its byte 1 (R169): a request to this unit whatever the bits 2 to 6 of byte 1, an unknown kind (R171), and
the broadcasts (R170). The length byte of a frame under reception is at most 200 (R168, HostLineInvariantKept). The model's own: the
HRX level (log entry 20), the buffer (log entry 23), a broadcast SET_MODE_CODE dropped for its selector (log entry 19), the
order of its three trunks (log entry 24), and the
REQUEST reset that waits for its release (log entry 10). -/
def Obligations.GoodFrameAddressedOrBroadcast : Prop :=
  ∀ (b : Byte) (s : State), s.completes b → byteSum (s.bufferWith b) = 0xA5 →
    let frame := s.bufferWith b
    let kind := byteAt frame 2
    let p := (frame.drop 4).take (byteAt frame 3).toNat
    let h := (s.hrxByte false).hunting
    ((byteAt frame 1).getLsbD 7 = false → (byteAt frame 1).setWidth 2 ≠ s.hostLine.unit →
      exec (.hostByteReceived b false) s = .next h) ∧
    ((byteAt frame 1).getLsbD 7 = false → (byteAt frame 1).setWidth 2 = s.hostLine.unit → kind ∉ knownKinds →
      exec (.hostByteReceived b false) s = .next
        { s with hostLine := { s.hostLine with
            receiver := .replying, buffer := frame, gapTimer := false, hrxLow := false, lineHold := false,
            replyErrorCounted := false, reply := some ⟨kind, .unknownKind, [], false⟩ } }) ∧
    ((byteAt frame 1).getLsbD 7 = false → (byteAt frame 1).setWidth 2 = s.hostLine.unit → p.length ≤ 200 →
      ∀ i : Instr, i.request? = some (kind, p) → ∃ t : State, exec i s = .next t ∧
        exec (.hostByteReceived b false) s = .next { t with hostLine := { t.hostLine with buffer := frame } }) ∧
    ((byteAt frame 1).getLsbD 7 = true →
      (kind ≠ 0x03 → kind ≠ 0x2C → kind ≠ 0x32 → exec (.hostByteReceived b false) s = .next h.lineErrored) ∧
      (kind = 0x03 → exec (.hostByteReceived b false) s = .next
        (if p = [] ∧ s.startUp.part ≠ .starting then h.beginReset .request else h)) ∧
      (kind = 0x32 → exec (.hostByteReceived b false) s = .next
        (if p = [] ∧ s.startUp.part = .ready then h.closeInterval true s.interval.position else h)) ∧
      (kind = 0x2C → exec (.hostByteReceived b false) s = .next
        (if p.length = 2 ∧ (byteAt p 0).toNat ≤ 3 ∧ (byteAt p 1).toNat ≤ 63 ∧ s.startUp.part = .ready then
          [0, 1, 2].foldl (fun v t => v.writeMode ((byteAt p 1).setWidth 6) t) h
        else h)))

/-- The outcome codes (10.5). The reply: its frame on HTX (R166, R172), its end, the reset that follows an ACCEPTED RESET_PART (R174), the bytes and the request
commands that arrive meanwhile (R172), and the other request commands that are not taken. The model's own: the HRX level and its
timer (log entry 20), the buffer emptied at the end (log entry 23), the REQUEST reset that waits for its release (log entry 10), a
request command in reset (log entry 11) and one with a payload that no frame carries (log entry 18). -/
def Obligations.ReplyPeriod : Prop :=
  ([.accepted, .cancelPending, .unknownKind, .badLength, .badField, .starting, .failed, .tagBusy, .noSuchTag, .wrongState,
    .tableFull, .nodeQueueFull, .poolEmpty, .nodeUnavailable, .trunkUnavailable, .fillGap, .overrun, .shortFill, .notOwned,
    .noReport, .tooLate].map OutcomeCode.code =
   [0x00, 0x01, 0x10, 0x11, 0x12, 0x13, 0x14, 0x20, 0x21, 0x22, 0x23, 0x24, 0x25, 0x26, 0x27, 0x28, 0x29, 0x2A, 0x2B, 0x2C,
    0x2D]) ∧
  (byteSum [] = 0 ∧ ∀ (b : Byte) (bs : List Byte), byteSum (b :: bs) = b + byteSum bs) ∧
  (∀ (s : State) (r : Reply), s.hostLine.receiver = .replying → s.hostLine.reply = some r → s.hostLine.htx = none →
    ∃ check : Byte,
      let frame := [0xB6#8, s.hostLine.unit.setWidth 8, r.kind, r.outcome.code, byteOf r.payload.length] ++ r.payload ++ [check]
      byteSum frame = 0xA5 ∧
      exec .replyStart s = .next { s with hostLine := { s.hostLine with htx := some frame } }) ∧
  (∀ (s : State) (r : Reply) (f : List Byte), s.hostLine.reply = some r → s.hostLine.htx = some f →
    let e : State := { s with hostLine := { s.hostLine with
      receiver := .hunting, buffer := [], reply := none, replyErrorCounted := false, htx := none } }
    exec .replyEnd s = .next (if r.resetAfter then e.beginReset .request else e)) ∧
  (∀ (b : Byte) (fe : Bool) (s : State), s.startUp.part ≠ .inReset → s.hostLine.receiver = .replying →
    (s.hostLine.replyErrorCounted = false → exec (.hostByteReceived b fe) s = .next
      ({ s with hostLine := { s.hostLine with replyErrorCounted := true, hrxLow := fe, lineHold := fe } }).lineErrored) ∧
    (s.hostLine.replyErrorCounted = true → exec (.hostByteReceived b fe) s = .next (s.hrxByte fe))) ∧
  (∀ (i : Instr) (kind : Byte) (p : List Byte) (s : State), i.request? = some (kind, p) →
    (s.startUp.part = .inReset → exec i s = .next s) ∧
    (s.startUp.part ≠ .inReset → s.hostLine.receiver = .replying → s.hostLine.replyErrorCounted = false → exec i s = .next
      ({ s with hostLine := { s.hostLine with replyErrorCounted := true, hrxLow := false, lineHold := false } }).lineErrored) ∧
    (s.startUp.part ≠ .inReset → s.hostLine.receiver = .replying → s.hostLine.replyErrorCounted = true →
      exec i s = .next (s.hrxByte false)) ∧
    (s.startUp.part ≠ .inReset → s.hostLine.receiver ≠ .replying → 200 < p.length →
      exec i s = .next (s.hrxByte false).hunting.lineErrored))

/-- READ_IDENTITY (R175, R180). -/
def Obligations.ReadIdentityAnswer : Prop :=
  ∀ (p : List Byte) (s : State), s.hears → p.length ≤ 200 →
    (p ≠ [] → exec (.readIdentity p) s = .next (s.answered 0x01 p .badLength [])) ∧
    (p = [] → s.startUp.part = .starting → exec (.readIdentity p) s = .next (s.answered 0x01 p .starting [])) ∧
    (p = [] → s.startUp.part = .ready ∨ s.startUp.part = .failed →
      exec (.readIdentity p) s = .next (s.answered 0x01 p .accepted
        [0x4E, 0x45, 0x4C, 0x4D, 0x41, 0x54, 0x52, 0x41, 0x45, 0x54, 0x32, 0x34, 0x43, 3, 48, 96, 0, 1, 24, 32, 4]))

/-- RESET_PART addressed to the part alone (R174, R180): the reply is fixed, and the reset waits for its end. -/
def Obligations.ResetPartAnswer : Prop :=
  ∀ (p : List Byte) (s : State), s.hears → p.length ≤ 200 →
    (p ≠ [] → exec (.resetPart p) s = .next (s.answered 0x03 p .badLength [])) ∧
    (p = [] → s.startUp.part = .starting → exec (.resetPart p) s = .next (s.answered 0x03 p .starting [])) ∧
    (p = [] → s.startUp.part = .ready ∨ s.startUp.part = .failed →
      exec (.resetPart p) s = .next ((s.taken 0x03 p).withReply 0x03 .accepted [] true))

/-! ## Start-up and reset -/

/-- A reset begins (R177, R178, R173, R174): the cause is the new kind and its condition is held beside those held already, but that
of a REQUEST reset, which is held by none; the outputs are at rest, every exchange, frame and reply is cut off, and nothing else changes. What is set at the begin and what waits for the
release is log entry 11, LINE_HOLD_RESET taken whatever level of HRX is known is log entry 20. -/
def Obligations.ResetBegins : Prop :=
  ∀ s : State,
    let h := s.hostLine
    let held := s.startUp
    let begun (startUp : StartUp) (hrxLow : Bool) : State := { s with
      startUp := startUp
      hostLine := ⟨h.unit, h.rate, .hunting, [], false, h.errorCount, hrxLow, false, none, false, none⟩
      engines := Vector.replicate 3 ⟨.idle, none, none, [], false, 0⟩
      supplies := s.supplies.map fun (m : SupplyMonitor) => (⟨false, m.senseGood, false, false, false, false⟩ : SupplyMonitor)
      notices := { s.notices with attn := false }
      claims := [] }
    exec .pinReset s = .next (begun ⟨.inReset, .pin, held.heldPowerOn, true, held.heldLineHold⟩ h.hrxLow) ∧
    exec .powerOnReset s = .next (begun ⟨.inReset, .powerOn, true, held.heldPin, held.heldLineHold⟩ h.hrxLow) ∧
    (s.startUp.part ≠ .inReset →
      exec .lineHoldReset s = .next (begun ⟨.inReset, .lineHold, held.heldPowerOn, held.heldPin, true⟩ true)) ∧
    (s.startUp.part = .inReset → exec .lineHoldReset s = .next s) ∧
    s.beginReset .request = begun ⟨.inReset, .request, held.heldPowerOn, held.heldPin, held.heldLineHold⟩ h.hrxLow

/-- The release of a reset (R178): the straps are read, every block has its reset values, the cause is kept, the part is
STARTING. A line hold keeps the part in reset while HRX is low (R177); that RESET_RELEASE is the end of the other conditions is log
entry 10, the empty segment memory is log entry 9, and a RESET_RELEASE outside reset that changes nothing is log entry 2. -/
def Obligations.ResetReleaseValues : Prop :=
  ∀ (u r : BitVec 2) (low : Bool) (s : State),
    (s.startUp.part ≠ .inReset ∨ (low = true ∧ s.startUp.heldLineHold = true) → exec (.resetRelease u r low) s = .next s) ∧
    (s.startUp.part = .inReset → ¬ (low = true ∧ s.startUp.heldLineHold = true) →
      ∃ t, exec (.resetRelease u r low) s = .next t ∧ t.pending = s.pending ∧
      t.startUp = ⟨.starting, s.startUp.cause, false, false, false⟩ ∧
      t.hostLine = ⟨u, r, .hunting, [], false, 0, low, low, none, false, none⟩ ∧
      (∀ k : Fin 48, t.table.entries[k] = none) ∧ (∀ n : NodeId, t.table.queues[n] = []) ∧ t.table.backlog = [] ∧
      (∀ g : SegId, t.pool.segs[g] = ⟨.free, none, 0⟩) ∧ t.pool.freeList = List.finRange 96 ∧ t.pool.mem = [] ∧
      (∀ n : NodeId, t.nodes[n] = ⟨.unseen, false, 0, 0, 0⟩ ∧ t.nodeScheds[n] = ⟨none, false, false⟩ ∧ t.held[n] = none) ∧
      (∀ n : TrunkId, t.scheds[n] = ⟨7, 7, 7, 0, 0, false⟩ ∧ t.engines[n] = ⟨.idle, none, none, [], false, 0⟩ ∧
        t.trunks[n] = ⟨.disabled, .none, ⟨1, 20, 4, 2, 3, 2, 8, true, true, true, 0, .interval, 0⟩, 63, 0, false⟩ ∧
        t.supplies[n] = ⟨false, s.supplies[n].senseGood, false, false, false, false⟩ ∧
        t.meters[n] = ⟨⟨0, 0, 0, 0, 0, 0, 0, 0, 0, 0, 0⟩, false, false, 0, 0, [], 0⟩) ∧
      t.completions = ⟨[], 1, 5, false⟩ ∧ t.attention = [] ∧ t.notices.flags = 0 ∧ t.notices.mask = 0x000F ∧
      (∀ n : TrunkId, t.notices.faultSeen[n] = false) ∧ t.notices.attn = false ∧ t.interval = ⟨0, 100, none, 0⟩ ∧
      t.claims = [])

/-- The end of the memory check (R179): READY with ATTN taken anew, or FAILED; nothing else changes. -/
def Obligations.MemoryCheckEnds : Prop :=
  ∀ s : State, s.startUp.part = .starting →
    exec .memoryCheckPassed s = .next
      { s with startUp := { s.startUp with part := .ready }
               notices := { s.notices with attn := decide (s.notices.flags &&& s.notices.mask ≠ 0) } } ∧
    exec .memoryCheckFailed s = .next { s with startUp := { s.startUp with part := .failed } }

/-! ## Notices -/

/-- READ_STATUS (R149, 8.6), with the codes of the part states, the reset causes and the trunk states: answered in every part state,
and nothing changes. -/
def Obligations.ReadStatusAnswer : Prop :=
  [PartState.starting, .ready, .failed].map PartState.code = [0, 1, 2] ∧
  [ResetKind.powerOn, .pin, .lineHold, .request].map ResetKind.code = [0, 1, 2, 3] ∧
  [TrunkState.disabled, .active, .quiet, .stopping, .down].map TrunkState.code = [0, 1, 2, 3, 4] ∧
  ∀ (p : List Byte) (s : State), s.hears → p.length ≤ 200 →
    (p ≠ [] → exec (.readStatus p) s = .next (s.answered 0x02 p .badLength [])) ∧
    (p = [] → exec (.readStatus p) s = .next (s.answered 0x02 p .accepted
      [s.startUp.part.code, s.startUp.cause.code, s.interval.tick.setWidth 8, (s.interval.tick >>> 8).setWidth 8,
       s.notices.flags.setWidth 8, (s.notices.flags >>> 8).setWidth 8,
       s.notices.mask.setWidth 8, (s.notices.mask >>> 8).setWidth 8,
       byteOf s.completions.records.length, byteOf s.table.backlog.length, byteOf s.attention.length,
       byteOf s.pool.freeList.length, byteOf s.table.live.length,
       s.trunks[0].state.code, s.trunks[1].state.code, s.trunks[2].state.code,
       byteOf ((if s.supplies[0].supplyLow then 1 else 0) + (if s.supplies[1].supplyLow then 2 else 0) +
         (if s.supplies[2].supplyLow then 4 else 0) + (if s.notices.faultSeen[0] then 16 else 0) +
         (if s.notices.faultSeen[1] then 32 else 0) + (if s.notices.faultSeen[2] then 64 else 0)),
       byteOf s.hostLine.errorCount]))

/-- SET_NOTICE_MASK (R145). -/
def Obligations.SetNoticeMaskEffect : Prop :=
  RefusesBadForms .setNoticeMask 0x08 (fun p => p.length = 2) (fun p => (byteAt p 1).toNat < 2) ∧
  ∀ (lo hi : Byte) (s : State), s.serves → hi.toNat < 2 →
    ∃ flags : Word,
      (∀ i : Nat, flags.getLsbD i = (s.notices.flags.getLsbD i &&
        !(decide (2 ≤ i ∧ i ≤ 8) && s.notices.mask.getLsbD i && !(hi ++ lo).getLsbD i))) ∧
      exec (.setNoticeMask [lo, hi]) s = .next
        (({ s with notices := ⟨flags, hi ++ lo, s.notices.faultSeen, decide (flags &&& (hi ++ lo) ≠ 0)⟩ }).taken 0x08 [lo, hi]
          |>.withReply 0x08 .accepted [] false)

/-- CLEAR_NOTICES (R146). -/
def Obligations.ClearNoticesEffect : Prop :=
  RefusesBadForms .clearNotices 0x09 (fun p => p.length = 2) (fun p => (byteAt p 1).toNat < 2) ∧
  ∀ (lo hi : Byte) (s : State), s.serves → hi.toNat < 2 →
    ∃ flags : Word,
      (∀ i : Nat, flags.getLsbD i = (s.notices.flags.getLsbD i && !(decide (2 ≤ i ∧ i ≤ 8) && (hi ++ lo).getLsbD i))) ∧
      ∃ t : State, exec (.clearNotices [lo, hi]) s = .next t ∧
        t.notices.flags = flags ∧ t.notices.mask = s.notices.mask ∧
        (∀ n : TrunkId, t.notices.faultSeen[n] = (s.notices.faultSeen[n] && !(hi ++ lo).getLsbD 3)) ∧
        t.notices.attn = decide (flags &&& s.notices.mask ≠ 0) ∧
        t.hostLine = { ((s.taken 0x09 [lo, hi]).withReply 0x09 .accepted
            [s.notices.flags.setWidth 8, (s.notices.flags >>> 8).setWidth 8,
             byteOf ((if s.notices.faultSeen[0] then 1 else 0) + (if s.notices.faultSeen[1] then 2 else 0) +
               (if s.notices.faultSeen[2] then 4 else 0)),
             byteOf s.hostLine.errorCount] false).hostLine with
          errorCount := if (hi ++ lo).getLsbD 7 then 0 else s.hostLine.errorCount } ∧
        t = { s with hostLine := t.hostLine, notices := t.notices }

/-! ## Orders -/

/-- SUBMIT_ORDER refused: the forms of R4 and the tests of R5 in their order. -/
def Obligations.SubmitOrderRefusals : Prop :=
  RefusesBadForms .submitOrder 0x10
    (fun p => 12 ≤ p.length ∧ p.length = 12 + (byteAt p 11).toNat)
    (fun p =>
      let k := (byteAt p 2).toNat
      let length := pairAt p 6
      byteAt p 0 ≠ 0 ∧ (byteAt p 1).toNat ≤ 23 ∧ (1 ≤ k ∧ k ≤ 6) ∧ (byteAt p 3).toNat ≤ 1 ∧
      (k = 1 ∨ k = 2 → 1 ≤ length ∧ length ≤ 16) ∧ (k = 3 ∨ k = 4 → 1 ≤ length ∧ length ≤ 2048) ∧
      (k = 5 → 1 ≤ length ∧ length ≤ 256) ∧ (k = 6 → length = 0) ∧
      (k = 2 → (byteAt p 11).toNat = length) ∧ (k ≠ 2 → byteAt p 11 = 0) ∧
      (k ≠ 1 → k ≠ 2 → pairAt p 4 = 0) ∧ (k ≠ 5 → byteAt p 10 = 0)) ∧
  ∀ (tag : Byte) (n : NodeId) (k : OrderKind) (c : OrderClass) (point length deadline : Word) (seed : Byte) (data : List Byte)
    (s : State), s.serves → submitFieldsOk tag k point length seed data →
    let p := submitPayload tag n k c point length deadline seed data
    let refused (o : OutcomeCode) : Prop := exec (.submitOrder p) s = .next (s.answered 0x10 p o [])
    let trunk := s.trunks[trunkOf n].state
    let node := s.nodes[n].state
    let trunkOk := trunk = .active ∨ trunk = .quiet
    let nodeOk := node = .unseen ∨ node = .online
    let queueOk := k = .bulkSend ∨ (s.table.queue n).length < 6
    (s.table.find tag ≠ none → refused .tagBusy) ∧
    (s.table.find tag = none → (∀ i : Fin 48, s.table.entries[i] ≠ none) → refused .tableFull) ∧
    (s.table.find tag = none → (∃ i : Fin 48, s.table.entries[i] = none) →
      (¬ trunkOk → refused .trunkUnavailable) ∧
      (trunkOk → ¬ nodeOk → refused .nodeUnavailable) ∧
      (trunkOk → nodeOk → ¬ queueOk → refused .nodeQueueFull) ∧
      (trunkOk → nodeOk → queueOk → (k = .bulkSend ∨ k = .bulkFetch) →
        s.pool.freeList.length < (length.toNat + 255) / 256 → refused .poolEmpty))

/-- SUBMIT_ORDER accepted (R6, R8, R31, R121, R160), with the trunk-free event that follows in the same event (R76). That the peak
backlog counts an order granted in the event of its submission is log entry 27. -/
def Obligations.SubmitOrderAccepted : Prop :=
  ∀ (tag : Byte) (n : NodeId) (k : OrderKind) (c : OrderClass) (point length deadline : Word) (seed : Byte) (data : List Byte)
    (s : State), s.serves → submitFieldsOk tag k point length seed data →
    s.table.find tag = none → (∃ i : Fin 48, s.table.entries[i] = none) →
    (s.trunks[trunkOf n].state = .active ∨ s.trunks[trunkOf n].state = .quiet) →
    (s.nodes[n].state = .unseen ∨ s.nodes[n].state = .online) →
    (k = .bulkSend ∨ (s.table.queue n).length < 6) → tag ∉ s.table.queue n →
    let bulk := k = .bulkSend ∨ k = .bulkFetch
    let need := if bulk then (length.toNat + 255) / 256 else 0
    need ≤ s.pool.freeList.length →
    let p := submitPayload tag n k c point length deadline seed data
    let chain := s.pool.freeList.take need
    let o := submittedEntry tag n k c point length deadline seed data s.interval.tick chain
    ∃ t : State, exec (.submitOrder p) s = .next t ∧
      t.hostLine = (s.answered 0x10 p .accepted []).hostLine ∧
      t.pool.freeList = s.pool.freeList.drop need ∧ t.pool.mem = s.pool.mem ∧
      (∀ g : SegId, t.pool.seg g =
        if g ∈ chain then ⟨if k = .bulkSend then .hostSide else .trunkSide, some tag, 0⟩ else s.pool.seg g) ∧
      t.table.backlog = s.table.backlog ∧ (∀ m : NodeId, m ≠ n → t.table.queue m = s.table.queue m) ∧
      (k = .bulkSend → t.table.find tag = some o ∧ t.table.queue n = s.table.queue n ∧
        (∀ u : Byte, u ≠ tag → t.table.find u = s.table.find u) ∧
        t = { s with hostLine := t.hostLine, table := t.table, pool := t.pool }) ∧
      (k ≠ .bulkSend → (t.table.find tag = some o ∨ t.table.find tag = some { o with state := .active }) ∧
        t.table.queue n = s.queueWith n c tag ∧
        t.trunks[trunkOf n].state = .active ∧
        t.trunks[trunkOf n].idleCount =
          (if s.trunks[trunkOf n].state = .quiet then 0 else s.trunks[trunkOf n].idleCount) ∧
        t.meters[trunkOf n] = { s.meters[trunkOf n] with
          peak := max s.meters[trunkOf n].peak (s.currentBacklog (trunkOf n) + 1) } ∧
        t = { s with hostLine := t.hostLine, table := t.table, pool := t.pool, held := t.held, scheds := t.scheds,
                     engines := t.engines, trunks := t.trunks, meters := t.meters } ∧
        ∃ q : State, t = (q.trunkFree (trunkOf n)).withReply 0x10 .accepted [] false ∧ s.entersQueue (s.taken 0x10 p) o q ∧
          q.pool = t.pool)

/-- FILL_ORDER (R34 to R36): the refusals, and the bytes, fill counts and memory of an accepted fill. -/
def Obligations.FillOrderEffect : Prop :=
  RefusesBadForms .fillOrder 0x11
    (fun p => 4 ≤ p.length ∧ p.length = 4 + (byteAt p 3).toNat)
    (fun p => byteAt p 0 ≠ 0 ∧ 1 ≤ (byteAt p 3).toNat ∧ (byteAt p 3).toNat ≤ 192 ∧ pairAt p 1 ≤ 2047) ∧
  ∀ (tag : Byte) (off : Word) (data : List Byte) (s : State), s.serves → tag ≠ 0 → off.toNat ≤ 2047 → data ≠ [] →
    data.length ≤ 192 →
    let n := data.length
    let p := tag :: leWord off ++ byteOf n :: data
    let refused (c : OutcomeCode) : Prop := exec (.fillOrder p) s = .next (s.answered 0x11 p c [])
    (s.table.find tag = none → refused .noSuchTag) ∧
    ∀ o : Order, s.table.find tag = some o →
      (o.state ≠ .filling → refused .wrongState) ∧
      (o.state = .filling → off.toNat ≠ o.fill → refused .fillGap) ∧
      (o.state = .filling → off.toNat = o.fill → o.length < o.fill + n → refused .overrun) ∧
      (o.state = .filling → off.toNat = o.fill → o.fill + n ≤ o.length → Memory.wf s.pool.mem → o.chain.Nodup →
        (∀ i, o.fill ≤ i → i < o.fill + n → ∃ g, o.chain[i / 256]? = some g ∧ (s.pool.seg g).owner = .hostSide ∧
          (s.pool.seg g).tag = some tag) →
        ∃ t : State, exec (.fillOrder p) s = .next t ∧ t.hostLine = (s.answered 0x11 p .accepted []).hostLine ∧
          t.table.find tag = some { o with fill := o.fill + n } ∧ (∀ u : Byte, u ≠ tag → t.table.find u = s.table.find u) ∧
          t.table.queues = s.table.queues ∧ t.table.backlog = s.table.backlog ∧ t.pool.freeList = s.pool.freeList ∧
          (∀ i, i < n → ∃ a, dataAddress o.chain (o.fill + i) = some a ∧ some (Memory.read t.pool.mem a) = data[i]?) ∧
          (∀ a, (∀ i, i < n → dataAddress o.chain (o.fill + i) ≠ some a) →
            Memory.read t.pool.mem a = Memory.read s.pool.mem a) ∧
          (∀ g : SegId, (t.pool.seg g).owner = (s.pool.seg g).owner ∧ (t.pool.seg g).tag = (s.pool.seg g).tag ∧
            (t.pool.seg g).fill = (s.pool.seg g).fill +
              ((List.range n).filter fun i => decide (o.chain[(o.fill + i) / 256]? = some g)).length) ∧
          t = { s with hostLine := t.hostLine, table := t.table, pool := t.pool })

/-- COMMIT_ORDER (R2, R20, R38, R8, R121, R160): the refusals in their order, and the effect of an accepted commit with the trunk-free
event that follows in the same event (R76). That the peak backlog counts an order granted in the event of its commit is log entry
27. -/
def Obligations.CommitOrderEffect : Prop :=
  RefusesBadForms .commitOrder 0x12 (fun p => p.length = 1) (fun p => byteAt p 0 ≠ 0) ∧
  ∀ (tag : Byte) (s : State), s.serves → tag ≠ 0 →
    let refused (c : OutcomeCode) : Prop := exec (.commitOrder [tag]) s = .next (s.answered 0x12 [tag] c [])
    (s.table.find tag = none → refused .noSuchTag) ∧
    ∀ o : Order, s.table.find tag = some o →
      let trunk := s.trunks[trunkOf o.node].state
      let node := s.nodes[o.node].state
      let trunkOk := trunk = .active ∨ trunk = .quiet
      let nodeOk := node = .unseen ∨ node = .online
      (o.state ≠ .filling → refused .wrongState) ∧
      (o.state = .filling → o.fill < o.length → refused .shortFill) ∧
      (o.state = .filling → o.length ≤ o.fill → ¬ trunkOk → refused .trunkUnavailable) ∧
      (o.state = .filling → o.length ≤ o.fill → trunkOk → ¬ nodeOk → refused .nodeUnavailable) ∧
      (o.state = .filling → o.length ≤ o.fill → trunkOk → nodeOk → 6 ≤ (s.table.queue o.node).length →
        refused .nodeQueueFull) ∧
      (o.state = .filling → o.length ≤ o.fill → trunkOk → nodeOk → (s.table.queue o.node).length < 6 →
        tag ∉ s.table.queue o.node →
        ∃ t : State, exec (.commitOrder [tag]) s = .next t ∧ t.hostLine = (s.answered 0x12 [tag] .accepted []).hostLine ∧
          (t.table.find tag = some { o with state := .queued } ∨ t.table.find tag = some { o with state := .active }) ∧
          t.table.queue o.node = s.queueWith o.node o.cls tag ∧
          (∀ m : NodeId, m ≠ o.node → t.table.queue m = s.table.queue m) ∧ t.table.backlog = s.table.backlog ∧
          (∀ g : SegId, t.pool.seg g = if g ∈ o.chain ∧ (s.pool.seg g).owner ≠ .free
            then { s.pool.seg g with owner := .trunkSide } else s.pool.seg g) ∧
          t.pool.freeList = s.pool.freeList ∧ t.pool.mem = s.pool.mem ∧ t.trunks[trunkOf o.node].state = .active ∧
          t = { s with hostLine := t.hostLine, table := t.table, pool := t.pool, held := t.held, scheds := t.scheds,
                       engines := t.engines, trunks := t.trunks, meters := t.meters } ∧
          ∃ q : State, t = (q.trunkFree (trunkOf o.node)).withReply 0x12 .accepted [] false ∧
            s.entersQueue (s.taken 0x12 [tag]) { o with state := .queued } q ∧ q.pool = t.pool)

/-- CANCEL_ORDER by the state of the order (R2, R21). -/
def Obligations.CancelOrderByState : Prop :=
  RefusesBadForms .cancelOrder 0x13 (fun p => p.length = 1) (fun p => byteAt p 0 ≠ 0) ∧
  ∀ (tag : Byte) (s : State), s.serves → tag ≠ 0 →
    let refused (c : OutcomeCode) : Prop := exec (.cancelOrder [tag]) s = .next (s.answered 0x13 [tag] c [])
    (s.table.find tag = none → refused .noSuchTag) ∧
    ∀ o : Order, s.table.find tag = some o →
      let inFlight := ∃ x, s.engines[trunkOf o.node].exch = some x ∧ x.order = some tag
      (o.state = .ended ∨ o.state = .parked → refused .tooLate) ∧
      (o.state = .filling ∨ o.state = .queued ∨ (o.state = .active ∧ ¬ inFlight) →
        exec (.cancelOrder [tag]) s = .next
          ((((s.taken 0x13 [tag]).endOrder tag .cancelled 0).trunkFree (trunkOf o.node)).withReply 0x13 .accepted [] false)) ∧
      (o.state = .active → inFlight →
        ∃ t : State, exec (.cancelOrder [tag]) s = .next t ∧
          t.hostLine = (s.answered 0x13 [tag] .cancelPending []).hostLine ∧
          t.table.find tag = some { o with mark := if o.mark = none then some .cancel else o.mark } ∧
          (∀ u : Byte, u ≠ tag → t.table.find u = s.table.find u) ∧ t.table.queues = s.table.queues ∧
          t.table.backlog = s.table.backlog ∧ t = { s with hostLine := t.hostLine, table := t.table })

/-- READ_ORDER (R2, R27), with the codes of the order kinds and classes (1.2), of the states and of the pending marks, and two-byte fields
low byte first; the results are coded as in a completion record (TakeCompletionsEffect). While an unended order stands past its deadline, bytes 17-18 hold a free value (log entry 14). -/
def Obligations.ReadOrderAnswer : Prop :=
  [OrderKind.pointRead, .pointWrite, .bulkSend, .bulkFetch, .echoTest, .nodeReset].map OrderKind.code = [1, 2, 3, 4, 5, 6] ∧
  [OrderClass.routine, .urgent].map OrderClass.code = [0, 1] ∧
  [OrderState.filling, .queued, .active, .ended, .parked].map OrderState.code = [1, 2, 3, 4, 5] ∧
  [none, some Mark.cancel, some .expire].map markCode = [0, 1, 2] ∧
  (∀ w : Word, leWord w = [w.setWidth 8, (w >>> 8).setWidth 8]) ∧ (∀ n : Nat, leNat n = [byteOf n, byteOf (n / 256)]) ∧
  RefusesBadForms .readOrder 0x14 (fun p => p.length = 1) (fun p => byteAt p 0 ≠ 0) ∧
  ∀ (tag : Byte) (s : State), s.serves → tag ≠ 0 →
    (s.table.find tag = none → exec (.readOrder [tag]) s = .next (s.answered 0x14 [tag] .noSuchTag [])) ∧
    ∀ o : Order, s.table.find tag = some o →
      let unended := o.state = .filling ∨ o.state = .queued ∨ o.state = .active
      let since := (s.interval.tick - o.accepted).toNat
      ∃ (left : Word) (place result : Byte) (stamp : Word) (inFlight : Byte),
        (¬ unended ∨ o.deadline = none → left = 0) ∧
        (∀ d, unended → o.deadline = some d → since ≤ d → left = BitVec.ofNat 16 (d - since)) ∧
        (tag ∉ s.table.queue o.node → place = 255) ∧
        (∀ i, (s.table.queue o.node)[i]? = some tag → tag ∉ (s.table.queue o.node).take i → place = byteOf i) ∧
        (unended → result = 0 ∧ stamp = 0) ∧ (¬ unended → stamp = o.endStamp ∧ ∀ r, o.result = some r → result = r.code) ∧
        ((∃ x, s.engines[trunkOf o.node].exch = some x ∧ x.order = some tag) → inFlight = 1) ∧
        ((¬ ∃ x, s.engines[trunkOf o.node].exch = some x ∧ x.order = some tag) → inFlight = 0) ∧
        exec (.readOrder [tag]) s = .next (s.answered 0x14 [tag] .accepted
          ([tag, byteOf o.node.val, o.kind.code, o.cls.code, o.state.code, markCode o.mark, inFlight, place] ++
           leWord (o.point.getD 0) ++ leNat o.length ++ leNat o.fill ++ leNat o.progress ++ [byteOf o.retries] ++
           leWord left ++ [result, o.nakReason] ++ leWord stamp ++ [byteOf o.chain.length, byteOf o.inlineData.length] ++
           o.inlineData))

/-- READ_FETCHED (R44, R45): the refusals in their order, and the bytes of the range; nothing changes. -/
def Obligations.ReadFetchedAnswer : Prop :=
  RefusesBadForms .readFetched 0x15 (fun p => p.length = 4)
    (fun p => byteAt p 0 ≠ 0 ∧ 1 ≤ (byteAt p 3).toNat ∧ (byteAt p 3).toNat ≤ 192 ∧ pairAt p 1 ≤ 2047) ∧
  ∀ (tag : Byte) (off : Word) (n : Byte) (s : State), s.serves → tag ≠ 0 → off.toNat ≤ 2047 → 1 ≤ n.toNat → n.toNat ≤ 192 →
    let p := tag :: leWord off ++ [n]
    let answer (c : OutcomeCode) (data : List Byte) : Prop := exec (.readFetched p) s = .next (s.answered 0x15 p c data)
    (s.table.find tag = none → answer .noSuchTag []) ∧
    ∀ o : Order, s.table.find tag = some o →
      let readable := o.kind = .bulkFetch ∧ (o.state = .active ∨ o.state = .parked)
      let owned := ∀ i, i < n.toNat → ∃ g, o.chain[(off.toNat + i) / 256]? = some g ∧ (s.pool.seg g).owner = .hostSide ∧
        (s.pool.seg g).tag = some tag
      (¬ readable → answer .wrongState []) ∧
      (readable → ¬ owned → answer .notOwned []) ∧
      (readable → owned → o.progress < off.toNat + n.toNat → answer .overrun []) ∧
      (readable → owned → off.toNat + n.toNat ≤ o.progress →
        ∃ data : List Byte, answer .accepted data ∧ data.length = n.toNat ∧
          ∀ i, i < n.toNat → ∃ a, dataAddress o.chain (off.toNat + i) = some a ∧ data[i]? = some (Memory.read s.pool.mem a))

/-- RETIRE_ORDER (R2, R28). -/
def Obligations.RetireOrderEffect : Prop :=
  RefusesBadForms .retireOrder 0x16 (fun p => p.length = 1) (fun p => byteAt p 0 ≠ 0) ∧
  ∀ (tag : Byte) (s : State), s.serves → tag ≠ 0 →
    (s.table.find tag = none → exec (.retireOrder [tag]) s = .next (s.answered 0x16 [tag] .noSuchTag [])) ∧
    ∀ o : Order, s.table.find tag = some o →
      (o.state ≠ .parked → exec (.retireOrder [tag]) s = .next (s.answered 0x16 [tag] .wrongState [])) ∧
      (o.state = .parked →
        ∃ t : State, exec (.retireOrder [tag]) s = .next t ∧ t.hostLine = (s.answered 0x16 [tag] .accepted []).hostLine ∧
          t.table.find tag = none ∧ (∀ u : Byte, u ≠ tag → t.table.find u = s.table.find u) ∧
          t.table.queues = s.table.queues ∧ t.table.backlog = s.table.backlog ∧
          (∀ g : SegId, t.pool.seg g = if g ∈ o.chain then ⟨.free, none, 0⟩ else s.pool.seg g) ∧
          (∀ g : SegId, g ∈ t.pool.freeList ↔ g ∈ s.pool.freeList ∨ g ∈ o.chain) ∧ t.pool.mem = s.pool.mem ∧
          t = { s with hostLine := t.hostLine, table := t.table, pool := t.pool })

/-- The end of an order (R17, R19, R40, R43, R63, R126, R129, R130): the segments of a fetch are closed; the record is posted at once
when the queue has room and nothing waits, and the entry is then PARKED or FREE with its segments freed; else the entry waits ENDED
and BACKLOG is latched. A backlog beside a queue with room is ruled out by PostingInvariantKept. -/
def Obligations.OrderEndAndPosting : Prop :=
  ∀ (tag : Byte) (r : Result) (nak : Byte) (s : State) (o : Order), s.table.find tag = some o →
    let now := s.interval.tick
    let k := trunkOf o.node
    let progress := if o.state = .filling ∨ o.state = .queued then 0 else o.progress
    let data := if o.kind = .pointRead ∧ r = .done then o.inlineData else []
    let record : CompletionRecord := ⟨tag, o.node, o.kind, r, nak, progress, o.retries, now, data⟩
    let open_ (g : SegId) : Prop := o.kind = .bulkFetch ∧ g ∈ o.chain ∧ (s.pool.seg g).owner = .trunkSide
    let unused (g : SegId) : Prop := open_ g ∧ (s.pool.seg g).fill = 0
    let closed (g : SegId) : Segment :=
      if unused g then ⟨.free, none, 0⟩ else if open_ g then { s.pool.seg g with owner := .hostSide } else s.pool.seg g
    let chain := o.chain.filter fun g => !decide (unused g)
    let ended : Order := { o with
      state := .ended, mark := none, result := some r, nakReason := nak, endStamp := now, progress := progress, chain := chain }
    let parks := o.kind = .bulkFetch ∧ 0 < progress
    let u := s.endOrder tag r nak
    (∀ m : NodeId, u.table.queue m = if m = o.node then (s.table.queue m).filter (fun x => decide (x ≠ tag))
      else s.table.queue m) ∧
    (∀ m : NodeId, u.held[m] = if m = o.node ∧ s.held[m].map HeldExchange.tag = some tag then none else s.held[m]) ∧
    (s.trunks[k].state = .disabled → u.meters = s.meters) ∧
    (s.trunks[k].state ≠ .disabled →
      (r = .done → u.meters[k] = { s.meters[k] with counts :=
        { s.meters[k].counts with ordersDone := min 65535 (s.meters[k].counts.ordersDone + 1) } }) ∧
      (r ≠ .done → u.meters[k] = { s.meters[k] with counts :=
        { s.meters[k].counts with ordersOther := min 65535 (s.meters[k].counts.ordersOther + 1) } }) ∧
      (∀ m : TrunkId, m ≠ k → u.meters[m] = s.meters[m])) ∧
    u.pool.mem = s.pool.mem ∧
    (32 ≤ s.completions.records.length →
      u.table.backlog = s.table.backlog ++ [record] ∧ u.completions = s.completions ∧ u.table.find tag = some ended ∧
      (∀ g : SegId, u.pool.seg g = closed g ∧ (g ∈ u.pool.freeList ↔ g ∈ s.pool.freeList ∨ unused g)) ∧
      u.notices = (s.flagged 0x0100).notices) ∧
    (s.completions.records.length < 32 → s.table.backlog = [] →
      u.table.backlog = [] ∧ u.completions = { s.completions with
        records := s.completions.records ++ [⟨record, now⟩]
        headAged := if s.completions.records = [] then false else s.completions.headAged } ∧
      (parks → u.table.find tag = some { ended with state := .parked } ∧
        ∀ g : SegId, u.pool.seg g = closed g ∧ (g ∈ u.pool.freeList ↔ g ∈ s.pool.freeList ∨ unused g)) ∧
      (¬ parks → u.table.find tag = none ∧
        ∀ g : SegId, u.pool.seg g = (if g ∈ chain then ⟨.free, none, 0⟩ else closed g) ∧
          (g ∈ u.pool.freeList ↔ g ∈ s.pool.freeList ∨ unused g ∨ g ∈ chain)) ∧
      u.notices = (s.levelSet 0x0001 u.completions.level).notices) ∧
    (∀ v : Byte, v ≠ tag → s.table.backlog = [] ∨ 32 ≤ s.completions.records.length →
      u.table.find v = s.table.find v) ∧
    u = { s with table := u.table, pool := u.pool, held := u.held, completions := u.completions, notices := u.notices,
                 meters := u.meters }

/-! ## Completions -/

/-- TAKE_COMPLETIONS (R131, R132, R135): the records removed, the records posted from the backlog, the entries that leave ENDED with
them and their segments (R19, R130, where live tags are distinct and each record stands for its entry, IntervalAndQueueInvariantsKept),
the reply with each record in the layout of R126 and its result in the code of R127, the level. -/
def Obligations.TakeCompletionsEffect : Prop :=
  [Result.done, .nodeRejected, .noReply, .nodeBusy, .echoMismatch, .expired, .cancelled, .nodeIsolated, .trunkDown].map
    Result.code = [1, 2, 3, 4, 5, 6, 7, 8, 9] ∧
  RefusesBadForms .takeCompletions 0x18 (fun p => p.length = 1) (fun p => 1 ≤ (byteAt p 0).toNat ∧ (byteAt p 0).toNat ≤ 7) ∧
  ∀ (b : Byte) (s : State), s.serves → 1 ≤ b.toNat → b.toNat ≤ 7 →
    let r := min b.toNat s.completions.records.length
    let left := s.completions.records.drop r
    let k := min s.table.backlog.length (32 - left.length)
    ∃ t : State, exec (.takeCompletions [b]) s = .next t ∧
      t.completions.records = left ++ (s.table.backlog.take k).map (fun c => ⟨c, s.interval.tick⟩) ∧
      t.table.backlog = s.table.backlog.drop k ∧ t.table.queues = s.table.queues ∧
      t.completions.watermark = s.completions.watermark ∧ t.completions.ageLimit = s.completions.ageLimit ∧
      t.completions.headAged = (match left with
        | h :: _ => decide (s.completions.ageLimit ≠ 0) &&
            decide (s.completions.ageLimit ≤ (s.interval.tick - h.stamp).toNat)
        | [] => false) ∧
      t.notices = (s.levelSet 0x0001 t.completions.level).notices ∧
      t.hostLine = (s.answered 0x18 [b] .accepted
        ([byteOf r, byteOf t.completions.records.length, byteOf t.table.backlog.length] ++
          (s.completions.records.take r).flatMap fun (q : Posted) =>
            let c := q.record
            [c.tag, byteOf c.node.val, c.kind.code, c.result.code, c.nakReason, byteOf c.progress, byteOf (c.progress / 256),
             byteOf c.retries, c.endStamp.setWidth 8, (c.endStamp >>> 8).setWidth 8, byteOf c.data.length] ++
              c.data)).hostLine ∧
      t.pool.mem = s.pool.mem ∧
      (s.OrdersInv →
        let posted := s.table.backlog.take k
        let parks (c : CompletionRecord) : Prop := c.kind = .bulkFetch ∧ 0 < c.progress
        let freed (g : SegId) : Prop := ∃ c ∈ posted, ¬ parks c ∧ ∃ o, s.table.find c.tag = some o ∧ g ∈ o.chain
        (∀ tag : Byte, (∀ c ∈ posted, c.tag ≠ tag) → t.table.find tag = s.table.find tag) ∧
        (∀ c ∈ posted, ∀ o : Order, s.table.find c.tag = some o →
          (parks c → t.table.find c.tag = some { o with state := .parked }) ∧ (¬ parks c → t.table.find c.tag = none)) ∧
        ∀ g : SegId, (freed g → t.pool.seg g = ⟨.free, none, 0⟩) ∧ (¬ freed g → t.pool.seg g = s.pool.seg g) ∧
          (g ∈ t.pool.freeList ↔ g ∈ s.pool.freeList ∨ freed g)) ∧
      t = { s with hostLine := t.hostLine, table := t.table, pool := t.pool, completions := t.completions,
                   notices := t.notices }

/-- SET_COMPLETION_NOTICE (R134, R135), with the COMPLETIONS level of a queue (R135). That the fresh test of the head
record is made also when the limit in force is written again is log entry 32. -/
def Obligations.SetCompletionNoticeEffect : Prop :=
  RefusesBadForms .setCompletionNotice 0x19 (fun p => p.length = 2)
    (fun p => 1 ≤ (byteAt p 0).toNat ∧ (byteAt p 0).toNat ≤ 32) ∧
  (∀ q : CompletionQueue, q.level = (decide (q.watermark ≤ q.records.length) ||
    (!q.records.isEmpty && decide (q.ageLimit ≠ 0) && q.headAged))) ∧
  ∀ (w a : Byte) (s : State), s.serves → 1 ≤ w.toNat → w.toNat ≤ 32 →
    let aged := match s.completions.records with
      | h :: _ => decide (a.toNat ≠ 0) && decide (a.toNat ≤ (s.interval.tick - h.stamp).toNat)
      | [] => false
    let level := decide (w.toNat ≤ s.completions.records.length) ||
      (!s.completions.records.isEmpty && decide (a.toNat ≠ 0) && aged)
    exec (.setCompletionNotice [w, a]) s = .next
      ((({ s with completions := ⟨s.completions.records, w.toNat, a.toNat, aged⟩ }).levelSet 0x0001 level).answered 0x19 [w, a]
        .accepted [])

/-! ## Attention -/

/-- READ_ATTENTION (R139, R142). -/
def Obligations.ReadAttentionEffect : Prop :=
  RefusesBadForms .readAttention 0x1C (fun p => p = []) (fun _ => True) ∧
  ∀ s : State, s.serves →
    exec (.readAttention []) s = .next
      ((({ s with attention := s.attention.map fun (e : AttentionEntry) =>
          (⟨e.node, e.code, e.repeats, true, false⟩ : AttentionEntry) }).levelSet 0x0002
        false).answered 0x1C [] .accepted
          (byteOf s.attention.length :: s.attention.flatMap fun (e : AttentionEntry) =>
            [byteOf e.node.val, e.code, byteOf e.repeats, (if e.seen then 1 else 0) ||| (if e.renewed then 2 else 0)]))

/-- CLEAR_ATTENTION (R140, R142). -/
def Obligations.ClearAttentionEffect : Prop :=
  RefusesBadForms .clearAttention 0x1D (fun p => p = []) (fun _ => True) ∧
  ∀ s : State, s.serves →
    let kept := (s.attention.filter fun (e : AttentionEntry) => !(e.seen && !e.renewed)).map fun (e : AttentionEntry) =>
      (⟨e.node, e.code, e.repeats, false, e.renewed⟩ : AttentionEntry)
    exec (.clearAttention []) s = .next
      ((({ s with attention := kept }).levelSet 0x0002 (!kept.isEmpty)).answered 0x1D [] .accepted
        [byteOf (s.attention.length - kept.length), byteOf kept.length])

/-! ## Nodes -/

/-- READ_NODE (R103), with the codes of the node states: the record and the view of the node's orders; nothing changes. -/
def Obligations.ReadNodeAnswer : Prop :=
  [NodeState.disabled, .unseen, .online, .isolated].map NodeState.code = [0, 1, 2, 3] ∧
  RefusesBadForms .readNode 0x20 (fun p => p.length = 1) (fun p => (byteAt p 0).toNat ≤ 23) ∧
  ∀ (n : NodeId) (s : State), s.serves →
    let r := s.nodes[n]
    let g := s.nodeScheds[n]
    let queue := s.table.queue n
    ∃ inFlight : Byte,
      (queue = [] → inFlight = 0) ∧
      (∀ (tag : Byte) (o : Order), queue.head? = some tag → s.table.find tag = some o → o.node = n →
        ((∃ x, s.engines[trunkOf n].exch = some x ∧ x.order = some tag) → inFlight = 1) ∧
        ((¬ ∃ x, s.engines[trunkOf n].exch = some x ∧ x.order = some tag) → inFlight = 0)) ∧
      exec (.readNode [byteOf n.val]) s = .next (s.answered 0x20 [byteOf n.val] .accepted
        ([byteOf n.val, r.state.code, (if r.seqBit then 1 else 0), byteOf r.consecutive] ++ leNat r.total ++
          leWord r.lastExchange ++ [if g.expiry = none then 0 else if g.inForce then 2 else 1] ++ leWord (g.expiry.getD 0) ++
          [byteOf queue.length, queue.headD 0, inFlight,
           byteOf (s.table.live.filter fun o => decide (o.node = n ∧ o.state = .filling)).length]))

/-- ENABLE_NODE (R100) and RESTORE_NODE (R102), with the trunk-free event that the return may complete (R76). -/
def Obligations.NodeReturnsToService : Prop :=
  RefusesBadForms .enableNode 0x21 (fun p => p.length = 1) (fun p => (byteAt p 0).toNat ≤ 23) ∧
  RefusesBadForms .restoreNode 0x23 (fun p => p.length = 1) (fun p => (byteAt p 0).toNat ≤ 23) ∧
  ∀ (n : NodeId) (s : State), s.serves →
    let p := [byteOf n.val]
    let returned (kind : Byte) : State :=
      (((s.taken kind p).modNode n fun r => { r with state := .unseen, consecutive := 0 }).trunkFree (trunkOf n)).withReply
        kind .accepted [] false
    (s.nodes[n].state = .disabled → exec (.enableNode p) s = .next (returned 0x21)) ∧
    (s.nodes[n].state ≠ .disabled → exec (.enableNode p) s = .next (s.answered 0x21 p .wrongState [])) ∧
    (s.nodes[n].state = .isolated → exec (.restoreNode p) s = .next (returned 0x23)) ∧
    (s.nodes[n].state ≠ .isolated → exec (.restoreNode p) s = .next (s.answered 0x23 p .wrongState []))

/-- DISABLE_NODE (R101), and the claim it makes on each order of the queue, head first (R16, R25). -/
def Obligations.DisableNodeEffect : Prop :=
  RefusesBadForms .disableNode 0x22 (fun p => p.length = 1) (fun p => (byteAt p 0).toNat ≤ 23) ∧
  (∀ (n : NodeId) (s : State), s.serves →
    let p := [byteOf n.val]
    (s.nodes[n].state = .disabled → exec (.disableNode p) s = .next (s.answered 0x22 p .accepted [])) ∧
    (s.nodes[n].state ≠ .disabled →
      ∃ t : State, exec (.disableNode p) s = .next t ∧
        t = ((s.table.queue n).foldl (fun v tag => v.endOrMark .cancel tag)
          ((s.taken 0x22 p).modNode n fun r => { r with state := .disabled })).withReply 0x22 .accepted [] false ∧
        t.nodes[n] = { s.nodes[n] with state := .disabled } ∧ (∀ m : NodeId, m ≠ n → t.nodes[m] = s.nodes[m]) ∧
        t.nodeScheds = s.nodeScheds ∧ t.engines = s.engines ∧ t.trunks = s.trunks)) ∧
  ∀ (m : Mark) (tag : Byte) (s : State) (o : Order), s.table.find tag = some o →
    let inFlight := ∃ x, s.engines[trunkOf o.node].exch = some x ∧ x.order = some tag
    let result := if m = .cancel then Result.cancelled else .expired
    (o.state = .filling ∨ o.state = .queued ∨ (o.state = .active ∧ ¬ inFlight) →
      s.endOrMark m tag = s.endOrder tag result 0) ∧
    (o.state = .active → inFlight → s.endOrMark m tag =
      s.modTable (OrderTable.update tag fun o => { o with mark := if o.mark = none then some m else o.mark })) ∧
    (o.state = .ended ∨ o.state = .parked → s.endOrMark m tag = s)

/-! ## Trunks -/

/-- SET_TRUNK (R119): the ranges of 6.7, the state test, and the record written. -/
def Obligations.SetTrunkEffect : Prop :=
  let inRange (p : List Byte) : Prop :=
    let v (i : Nat) : Nat := (byteAt p i).toNat
    v 0 ≤ 2 ∧ v 1 ≤ 3 ∧ 5 ≤ v 2 ∧ (1 ≤ v 3 ∧ v 3 ≤ 15) ∧ v 4 ≤ 3 ∧ (1 ≤ v 5 ∧ v 5 ≤ 7) ∧ (1 ≤ v 6 ∧ v 6 ≤ 8) ∧
    (2 ≤ v 7 ∧ v 7 ≤ 15) ∧ v 8 ≤ 7 ∧ v 9 ≤ 15 ∧ v 10 ≤ 1 ∧ v 11 ≤ 15
  RefusesBadForms .setTrunk 0x28 (fun p => p.length = 12) inRange ∧
  ∀ (p : List Byte) (t : TrunkId) (s : State), s.serves → p.length = 12 → inRange p → byteAt p 0 = byteOf t.val →
    (s.trunks[t].state ≠ .disabled → exec (.setTrunk p) s = .next (s.answered 0x28 p .wrongState [])) ∧
    (s.trunks[t].state = .disabled → exec (.setTrunk p) s = .next
      ((s.modTrunk t fun c => { c with config :=
        { rate := (byteAt p 1).toNat, pollPeriod := (byteAt p 2).toNat, replyTimeout := (byteAt p 3).toNat,
          retryLimit := (byteAt p 4).toNat, isolation := (byteAt p 5).toNat, burstLimit := (byteAt p 6).toNat,
          guardLimit := (byteAt p 7).toNat, rotateU := (byteAt p 8).getLsbD 0, rotateR := (byteAt p 8).getLsbD 1,
          rotateP := (byteAt p 8).getLsbD 2, quietLimit := (byteAt p 9).toNat,
          peakMode := if (byteAt p 10).toNat = 1 then .held else .interval,
          degradeLimit := (byteAt p 11).toNat } }).answered 0x28 p .accepted []))

/-- READ_TRUNK (R123), with the codes of the wait indications; the trunk states are coded as in READ_STATUS (ReadStatusAnswer). The
snapshot of a trunk; nothing changes. -/
def Obligations.ReadTrunkAnswer : Prop :=
  [WaitIndication.none, .settle, .recovery].map WaitIndication.code = [0, 1, 2] ∧
  RefusesBadForms .readTrunk 0x29 (fun p => p.length = 1) (fun p => (byteAt p 0).toNat ≤ 2) ∧
  ∀ (t : TrunkId) (s : State), s.serves →
    let c := s.trunks[t]
    let k := c.config
    exec (.readTrunk [byteOf t.val]) s = .next (s.answered 0x29 [byteOf t.val] .accepted
      [byteOf t.val, c.state.code, c.wait.code, (if s.engines[t].exch = none then 0 else 1),
       byteOf k.rate, byteOf k.pollPeriod, byteOf k.replyTimeout, byteOf k.retryLimit, byteOf k.isolation,
       byteOf k.burstLimit, byteOf k.guardLimit,
       byteOf ((if k.rotateU then 1 else 0) + (if k.rotateR then 2 else 0) + (if k.rotateP then 4 else 0)),
       byteOf k.quietLimit, (if k.peakMode = .held then 1 else 0), byteOf k.degradeLimit,
       byteOf c.mode.toNat, (if s.supplies[t].supplyLow then 1 else 0), (if s.notices.faultSeen[t] then 1 else 0),
       byteOf c.idleCount, byteOf (s.table.live.filter fun o => decide (trunkOf o.node = t)).length,
       byteOf (s.table.live.filter fun o => decide (trunkOf o.node = t ∧ o.state = .queued)).length])

/-- ENABLE_TRUNK (R110, R77, R78, R99, R108). -/
def Obligations.EnableTrunkEffect : Prop :=
  RefusesBadForms .enableTrunk 0x2A (fun p => p.length = 1) (fun p => (byteAt p 0).toNat ≤ 2) ∧
  ∀ (t : TrunkId) (s : State), s.serves →
    let p := [byteOf t.val]
    (s.trunks[t].state ≠ .disabled → exec (.enableTrunk p) s = .next (s.answered 0x2A p .wrongState [])) ∧
    (s.trunks[t].state = .disabled →
      ∃ u : State, exec (.enableTrunk p) s = .next u ∧ u.hostLine = (s.answered 0x2A p .accepted []).hostLine ∧
        u.trunks[t] = { s.trunks[t] with state := .active, wait := .settle, idleCount := 0 } ∧
        u.supplies[t] = (let good := s.supplies[t].senseGood; ⟨true, good, !good, !good, good, false⟩) ∧
        u.scheds[t] = ⟨7, 7, 7, 0, 0, decide (s.trunks[t].mode ≠ 63)⟩ ∧
        (∀ m : TrunkId, m ≠ t → u.trunks[m] = s.trunks[m] ∧ u.supplies[m] = s.supplies[m] ∧ u.scheds[m] = s.scheds[m]) ∧
        (∀ n : NodeId, u.nodes[n] =
          if trunkOf n = t ∧ s.nodes[n].state = .online then { s.nodes[n] with state := .unseen } else s.nodes[n]) ∧
        u = { s with hostLine := u.hostLine, trunks := u.trunks, supplies := u.supplies, scheds := u.scheds,
                     nodes := u.nodes })

/-- DISABLE_TRUNK by the state of the trunk (R112, R114), the orders of its nodes by ascending node and head first (R18, R26), and what
the entry to DISABLED leaves (R113, R77, R120, R156). The announce
flag cleared at the entry to STOPPING is R78 as log entry 30 reads it. -/
def Obligations.DisableTrunkEffect : Prop :=
  RefusesBadForms .disableTrunk 0x2B (fun p => p.length = 1) (fun p => (byteAt p 0).toNat ≤ 2) ∧
  (trunkNodes 0 = [0, 1, 2, 3, 4, 5, 6, 7] ∧ trunkNodes 1 = [8, 9, 10, 11, 12, 13, 14, 15] ∧
    trunkNodes 2 = [16, 17, 18, 19, 20, 21, 22, 23] ∧ ∀ n : NodeId, n ∈ trunkNodes (trunkOf n)) ∧
  (∀ (t : TrunkId) (s : State), s.serves →
    let p := [byteOf t.val]
    let ended := ((trunkNodes t).flatMap s.table.queue).foldl (fun v tag => v.endOrMark .cancel tag) (s.taken 0x2B p)
    let running := s.trunks[t].state = .active ∨ s.trunks[t].state = .quiet
    (s.trunks[t].state = .stopping → exec (.disableTrunk p) s = .next (s.answered 0x2B p .wrongState [])) ∧
    (s.trunks[t].state = .disabled → exec (.disableTrunk p) s = .next (s.answered 0x2B p .accepted [])) ∧
    (s.trunks[t].state = .down →
      exec (.disableTrunk p) s = .next (((s.taken 0x2B p).enterDisabled t).withReply 0x2B .accepted [] false)) ∧
    (running → s.engines[t].exch = none →
      exec (.disableTrunk p) s = .next ((ended.enterDisabled t).withReply 0x2B .accepted [] false)) ∧
    (running → s.engines[t].exch ≠ none →
      exec (.disableTrunk p) s = .next ((((ended.modTrunk t fun c => { c with state := .stopping, wait := .none }).modSupply t
        fun m => { m with settleTimer := false }).modSched t fun c => { c with announce := false }).withReply 0x2B .accepted []
          false))) ∧
  ∀ (t : TrunkId) (s : State),
    let u := s.enterDisabled t
    u.trunks[t] = { s.trunks[t] with state := .disabled, wait := .none, orderExchange := false } ∧
    u.supplies[t] = ⟨false, s.supplies[t].senseGood, false, false, false, false⟩ ∧
    u.engines[t] = ⟨.idle, none, none, [], false, 0⟩ ∧ u.scheds[t] = { s.scheds[t] with announce := false } ∧
    u.meters[t] = { s.meters[t] with
      counts := ⟨0, 0, 0, 0, 0, 0, 0, 0, 0, 0, 0⟩, wasDown := false, wasQuiet := false, severe := 0 } ∧
    (∀ m : TrunkId, m ≠ t → u.trunks[m] = s.trunks[m] ∧ u.supplies[m] = s.supplies[m] ∧ u.engines[m] = s.engines[m] ∧
      u.scheds[m] = s.scheds[m] ∧ u.meters[m] = s.meters[m]) ∧
    (∀ n : NodeId, u.nodeScheds[n] =
      if trunkOf n = t then { s.nodeScheds[n] with expiry := none, inForce := false } else s.nodeScheds[n]) ∧
    u = { s with trunks := u.trunks, supplies := u.supplies, engines := u.engines, scheds := u.scheds, meters := u.meters,
                 nodeScheds := u.nodeScheds }

/-- SET_MODE_CODE addressed to the part (R122), and what a code written does to one trunk (R78, R122). The order of
the three trunks is log entry 24. -/
def Obligations.SetModeCodeEffect : Prop :=
  RefusesBadForms .setModeCode 0x2C (fun p => p.length = 2) (fun p => (byteAt p 0).toNat ≤ 3 ∧ (byteAt p 1).toNat ≤ 63) ∧
  (∀ (code : Byte) (s : State), s.serves → code.toNat ≤ 63 →
    (∀ t : TrunkId, exec (.setModeCode [byteOf t.val, code]) s = .next
      (((s.taken 0x2C [byteOf t.val, code]).writeMode (code.setWidth 6) t).withReply 0x2C .accepted [] false)) ∧
    exec (.setModeCode [3, code]) s = .next
      ((((s.taken 0x2C [3, code]).writeMode (code.setWidth 6) 0).writeMode (code.setWidth 6) 1).writeMode
        (code.setWidth 6) 2 |>.withReply 0x2C .accepted [] false)) ∧
  ∀ (code : BitVec 6) (t : TrunkId) (s : State),
    let c := s.trunks[t]
    let written := s.modTrunk t fun c => { c with mode := code }
    (code = c.mode → s.writeMode code t = s) ∧
    (code ≠ c.mode → code ≠ 63 → (c.state = .active ∨ c.state = .quiet) →
      s.writeMode code t = (written.modSched t fun g => { g with announce := true }).trunkFree t) ∧
    (code ≠ c.mode → (code = 63 ∨ ¬ (c.state = .active ∨ c.state = .quiet)) → s.writeMode code t = written)

/-! ## Intervals and reports -/

/-- READ_REPORT (R163): the refusals, and the stored report in the layout of 9.6; nothing changes. -/
def Obligations.ReadReportAnswer : Prop :=
  RefusesBadForms .readReport 0x30 (fun p => p.length = 2) (fun p => (byteAt p 0).toNat ≤ 2 ∧ (byteAt p 1).toNat ≤ 3) ∧
  ∀ (t : TrunkId) (back : Byte) (s : State), s.serves → back.toNat ≤ 3 →
    let p := [byteOf t.val, back]
    let ring := s.meters[t].ring
    (ring.length < back.toNat + 1 → exec (.readReport p) s = .next (s.answered 0x30 p .noReport [])) ∧
    ∀ r : Report, ring[back.toNat]? = some r →
      let c := r.counts
      exec (.readReport p) s = .next (s.answered 0x30 p .accepted
        ([byteOf t.val, byteOf ring.length, byteOf r.sequence.toNat, r.state.code,
          byteOf ((if r.wasDown then 1 else 0) + (if r.wasQuiet then 2 else 0) + (if r.short then 4 else 0)),
          byteOf r.faultClass, byteOf r.severe, byteOf r.peak] ++ leWord r.endStamp ++ leNat r.span ++ leNat c.started ++
          leNat c.good ++ leNat c.noStart ++ leNat c.broken ++ leNat c.stray ++ leNat c.busy ++ leNat c.retries ++
          leNat c.isolations ++ leNat c.ordersDone ++ leNat c.ordersOther ++
          [byteOf c.bytesMoved, byteOf (c.bytesMoved / 256), byteOf (c.bytesMoved / 65536)]))

/-- SET_INTERVAL (R153) and RESET_PEAK (R162). -/
def Obligations.SetIntervalAndResetPeakEffect : Prop :=
  RefusesBadForms .setInterval 0x31 (fun p => p.length = 2) (fun p => 100 ≤ pairAt p 0 ∧ pairAt p 0 ≤ 6000) ∧
  RefusesBadForms .resetPeak 0x33 (fun p => p.length = 1) (fun p => (byteAt p 0).toNat ≤ 2) ∧
  (∀ (lo hi : Byte) (s : State), s.serves → 100 ≤ pairAt [lo, hi] 0 → pairAt [lo, hi] 0 ≤ 6000 →
    exec (.setInterval [lo, hi]) s = .next
      (({ s with interval := { s.interval with pendingLength := some (pairAt [lo, hi] 0) } }).answered 0x31 [lo, hi]
        .accepted [])) ∧
  ∀ (t : TrunkId) (s : State), s.serves →
    exec (.resetPeak [byteOf t.val]) s = .next
      ((s.modMeter t fun m => { m with peak :=
        (s.table.live.filter fun o => decide (trunkOf o.node = t ∧ o.state = .queued)).length }).answered 0x33
          [byteOf t.val] .accepted [byteOf s.meters[t].peak])

/-- SYNC_INTERVAL (R154) and the interval end of a tick event (R152; its claim is taken as log entry 4 says). That an INTERVAL_END
still outstanding advances the position when the interval was closed meanwhile is log entry 5. -/
def Obligations.IntervalEndMadeBySyncOrTick : Prop :=
  RefusesBadForms .syncInterval 0x32 (fun p => p = []) (fun _ => True) ∧
  (∀ s : State, s.serves → exec (.syncInterval []) s = .next
    (((s.taken 0x32 []).closeInterval true s.interval.position).withReply 0x32 .accepted [] false)) ∧
  ∀ s : State, s.startUp.part = .ready →
    (TickClaim.intervalEnd ∉ s.claims → exec .intervalEnd s = .next s) ∧
    (TickClaim.intervalEnd ∈ s.claims →
      let c := { s with claims := s.claims.erase .intervalEnd }
      (s.interval.length ≤ s.interval.position + 1 →
        exec .intervalEnd s = .next (c.closeInterval false s.interval.length)) ∧
      (s.interval.position + 1 < s.interval.length → exec .intervalEnd s = .next
        { c with interval := { s.interval with position := s.interval.position + 1 } }))

/-- What an interval end does (R152, R157 to R161, R120, R78), and the trunk-free events that follow in the same event (R76), in the
order of the trunks (log entry 24). -/
def Obligations.IntervalCloseReports : Prop :=
  ∀ (short : Bool) (span : Nat) (s : State), ∃ u : State, s.closeInterval short span = ((u.trunkFree 0).trunkFree 1).trunkFree 2 ∧
    u.interval = { s.interval with
      position := 0, length := s.interval.pendingLength.getD s.interval.length, pendingLength := none } ∧
    let badReplies (t : TrunkId) : Nat :=
      s.meters[t].counts.noStart + s.meters[t].counts.broken + s.meters[t].counts.stray
    let faults (t : TrunkId) : Nat :=
      if badReplies t = 0 then 0 else if badReplies t = 1 then 1 else if badReplies t ≤ 5 then 2
      else if badReplies t ≤ 20 then 3 else if badReplies t ≤ 100 then 4 else 5
    let severe (t : TrunkId) : Nat := if 4 ≤ faults t then min 255 (s.meters[t].severe + 1) else 0
    let backlog (t : TrunkId) : Nat := (s.table.live.filter fun o => decide (trunkOf o.node = t ∧ o.state = .queued)).length
    let reported (t : TrunkId) : Prop := s.trunks[t].state ≠ .disabled
    let degraded (t : TrunkId) : Prop := reported t ∧ severe t ≠ s.meters[t].severe ∧ s.trunks[t].config.degradeLimit ≠ 0 ∧
      severe t = s.trunks[t].config.degradeLimit
    (∀ t : TrunkId,
      let m := s.meters[t]
      let c := s.trunks[t]
      let idle := if (c.state = .active ∧ c.wait = .none) ∨ c.state = .quiet
        then (if c.orderExchange then 0 else min 15 (c.idleCount + 1)) else if c.state = .active then 0 else c.idleCount
      let state := if c.state = .active ∧ c.wait = .none ∧ c.config.quietLimit ≠ 0 ∧ c.config.quietLimit ≤ idle ∧
        (∀ n : NodeId, trunkOf n = t → s.table.queue n = []) then .quiet else c.state
      u.trunks[t] = { c with state := state, idleCount := idle, orderExchange := false } ∧
      u.scheds[t] = { s.scheds[t] with
        announce := s.scheds[t].announce || decide ((state = .active ∨ state = .quiet) ∧ c.mode ≠ 63) } ∧
      (¬ reported t → u.meters[t] = { m with wasDown := false, wasQuiet := false }) ∧
      (reported t → u.meters[t] =
        { counts := ⟨0, 0, 0, 0, 0, 0, 0, 0, 0, 0, 0⟩
          wasDown := decide (c.state = .down)
          wasQuiet := decide (state = .quiet)
          severe := severe t
          peak := if c.config.peakMode = .interval then backlog t else m.peak
          ring := (⟨m.sequence, c.state, m.wasDown, m.wasQuiet, short, faults t, severe t, m.peak, s.interval.tick, span,
            m.counts⟩ :: m.ring).take 4
          sequence := m.sequence + 1 })) ∧
    ((∀ t, ¬ reported t) → u.notices = s.notices) ∧
    ((∃ t, reported t) → (¬ ∃ t, degraded t) → u.notices = (s.flagged 0x0040).notices) ∧
    ((∃ t, degraded t) → u.notices = (s.flagged 0x0060).notices) ∧
    u = { s with interval := u.interval, trunks := u.trunks, scheds := u.scheds, meters := u.meters, notices := u.notices }

/-! ## The tick event -/

/-- TICK (R151, R152, R23, R24, R80, R81, R135): the counts, and the claims it leaves to the blocks (log entry 4), after those
of the last tick that no command has taken. That the poll-due test takes a newly written poll period while the trunk is DISABLED is
log entry 31. -/
def Obligations.TickEffect : Prop :=
  (∀ s : State, s.startUp.part ≠ .ready → exec .tick s = .next s) ∧
  (∀ s : State, s.startUp.part = .ready →
    let taken (c : TickClaim) : Host.Outcome State Fault Refusal := .next (({ s with claims := s.claims.erase c }).applyClaim c)
    (∀ n : NodeId, TickClaim.backoff n ∈ s.claims → exec (.busyBackoffExpiry n) s = taken (.backoff n)) ∧
    (∀ n : NodeId, TickClaim.poll n ∈ s.claims → exec (.pollDue n) s = taken (.poll n)) ∧
    (TickClaim.headAged ∈ s.claims → exec .headRecordAged s = taken .headAged) ∧
    (TickClaim.intervalEnd ∈ s.claims → exec .intervalEnd s = taken .intervalEnd)) ∧
  (∀ (tag : Byte) (s : State),
    let due (o : Order) : Prop := s.table.find tag = some o ∧ (o.state = .filling ∨ o.state = .queued ∨ o.state = .active) ∧
      o.deadline = some (s.interval.tick - o.accepted).toNat
    (∀ o : Order, due o → s.applyClaim (.expiry tag) = (s.endOrMark .expire tag).trunkFree (trunkOf o.node)) ∧
    ((∀ o : Order, ¬ due o) → s.applyClaim (.expiry tag) = s)) ∧
  ∀ s : State, s.startUp.part = .ready →
    let v := s.claims.foldl (fun v c => v.applyClaim c) { s with claims := [] }
    let now := v.interval.tick + 1
    ∃ claims : List TickClaim, exec .tick s = .next { v with
        interval := { v.interval with
          tick := now
          position := if v.interval.position + 1 < v.interval.length then v.interval.position + 1 else v.interval.position }
        claims := claims } ∧
      (∀ tag : Byte, TickClaim.expiry tag ∈ claims ↔ ∃ o ∈ v.table.live, o.tag = tag ∧
        (o.state = .filling ∨ o.state = .queued ∨ o.state = .active) ∧ o.deadline = some (now - o.accepted).toNat) ∧
      (∀ n : NodeId, TickClaim.backoff n ∈ claims ↔
        v.nodeScheds[n].inForce = true ∧ ∃ e, v.nodeScheds[n].expiry = some e ∧ now = e + 1) ∧
      (∀ n : NodeId, TickClaim.poll n ∈ claims ↔ v.nodeScheds[n].pollDue = false ∧
        (if v.trunks[trunkOf n].state = .quiet then 8 else 1) * v.trunks[trunkOf n].config.pollPeriod ≤
          (now - v.nodes[n].lastExchange).toNat) ∧
      (TickClaim.headAged ∈ claims ↔ v.completions.headAged = false ∧ v.completions.ageLimit ≠ 0 ∧
        ∃ r, v.completions.records.head? = some r ∧ v.completions.ageLimit ≤ (now - r.stamp).toNat) ∧
      (TickClaim.intervalEnd ∈ claims ↔ v.interval.length ≤ v.interval.position + 1) ∧
      ∃ (tags : List Byte) (rest : List TickClaim), claims = tags.map .expiry ++ rest ∧
        (∀ tag, TickClaim.expiry tag ∉ rest) ∧ tags.Pairwise fun a b => a.toNat ≤ b.toNat

/-- ORDER_EXPIRY (R24), BUSY_BACKOFF_EXPIRY (R80), POLL_DUE (R81) and HEAD_RECORD_AGED (R135), each taken once (log entry 4). An
expiry waits for the expiries of lower tags that still act, and for no other claim (log entry 21).
The poll period of a DISABLED trunk is log entry 31. -/
def Obligations.TickClaimsTaken : Prop :=
  ∀ s : State, s.startUp.part = .ready →
    let without (c : TickClaim) : State := { s with claims := s.claims.erase c }
    let now := s.interval.tick
    let due (tag : Byte) (o : Order) : Prop := s.table.find tag = some o ∧
      (o.state = .filling ∨ o.state = .queued ∨ o.state = .active) ∧ o.deadline = some (now - o.accepted).toNat
    (∀ (tag : Byte) (before after : List TickClaim), s.claims = before ++ .expiry tag :: after →
      (∀ u, TickClaim.expiry u ∈ before → ∀ p, ¬ due u p) → ∀ o : Order, due tag o →
      exec (.orderExpiry tag) s = .next (((without (.expiry tag)).endOrMark .expire tag).trunkFree (trunkOf o.node))) ∧
    (∀ (u : Byte) (o : Order) (before after : List TickClaim), s.claims = before ++ .expiry u :: after → due u o →
      ∀ tag, tag ≠ u → TickClaim.expiry tag ∉ before → exec (.orderExpiry tag) s = .next s) ∧
    (∀ tag, (∀ o, ¬ due tag o) → exec (.orderExpiry tag) s = .next s) ∧
    (∀ n : NodeId, TickClaim.backoff n ∈ s.claims → s.nodeScheds[n].inForce = true →
      s.nodeScheds[n].expiry = some (now - 1) → exec (.busyBackoffExpiry n) s = .next
        (((without (.backoff n)).modNodeSched n fun g => { g with inForce := false }).trunkFree (trunkOf n))) ∧
    (∀ n : NodeId, TickClaim.poll n ∈ s.claims → s.nodeScheds[n].pollDue = false →
      (if s.trunks[trunkOf n].state = .quiet then 8 else 1) * s.trunks[trunkOf n].config.pollPeriod ≤
        (now - s.nodes[n].lastExchange).toNat → exec (.pollDue n) s = .next
        (((without (.poll n)).modNodeSched n fun g => { g with pollDue := true }).trunkFree (trunkOf n))) ∧
    (∀ (h : Posted) (rest : List Posted), TickClaim.headAged ∈ s.claims → s.completions.records = h :: rest →
      s.completions.ageLimit ≠ 0 → s.completions.ageLimit ≤ (now - h.stamp).toNat → exec .headRecordAged s = .next
        (({ without .headAged with completions := { s.completions with headAged := true } }).levelSet 0x0001 true)) ∧
    (∀ tag, TickClaim.expiry tag ∉ s.claims → exec (.orderExpiry tag) s = .next s) ∧
    (∀ n, TickClaim.backoff n ∉ s.claims → exec (.busyBackoffExpiry n) s = .next s) ∧
    (∀ n, TickClaim.poll n ∉ s.claims → exec (.pollDue n) s = .next s) ∧
    (TickClaim.headAged ∉ s.claims → exec .headRecordAged s = .next s)

/-! ## Trunk exchanges -/

/-- FRAME_SENT (R53, R69, R112): a node frame awaits its reply, an announce ends; nothing on a trunk that sends no frame (log entry
2). -/
def Obligations.FrameSentEffect : Prop :=
  ∀ (t : TrunkId) (s : State), s.startUp.part = .ready →
    (∀ x : Exchange, s.engines[t].phase = .sending → s.engines[t].exch = some x →
      (x.node ≠ none → exec (.frameSent t) s = .next (s.modEngine t fun e => { e with phase := .awaiting })) ∧
      (x.node = none → s.trunks[t].state ≠ .stopping → exec (.frameSent t) s = .next
        (s.modEngine t fun e => { e with phase := .guard, exch := none, guardTimes := 4 })) ∧
      (x.node = none → s.trunks[t].state = .stopping → exec (.frameSent t) s = .next (s.enterDisabled t))) ∧
    (s.engines[t].phase ≠ .sending → exec (.frameSent t) s = .next s)

/-- The reply-start timeout (R54), the gap and the end of the wait after an early fault (R55, R56), with the retry or the failure
that follows (R60). Nothing where the timer does not run (log entry 2). -/
def Obligations.AttemptWithoutReply : Prop :=
  ∀ (t : TrunkId) (n : NodeId) (x : Exchange) (s : State), s.startUp.part = .ready → s.engines[t].exch = some x →
    x.node = some n →
    (s.engines[t].phase = .awaiting → s.engines[t].rxFault = false →
      exec (.replyStartTimeout t) s = .next (s.attemptLost t n x .noStart)) ∧
    (s.engines[t].phase = .receiving → s.engines[t].rxFault = false →
      exec (.replyGapTimeout t) s = .next (s.attemptLost t n x .broken)) ∧
    (s.engines[t].phase = .receiving → s.engines[t].rxFault = true →
      exec (.faultWaitEnd t) s = .next (s.attemptLost t n x .broken)) ∧
    (s.engines[t].phase ≠ .awaiting → exec (.replyStartTimeout t) s = .next s) ∧
    (s.engines[t].phase ≠ .receiving → exec (.replyGapTimeout t) s = .next s ∧ exec (.faultWaitEnd t) s = .next s)

/-- TRUNK_BYTE_RECEIVED (R47, R54, R55): bytes collected, a fault found early, the byte that completes the reply and
the ending it gives the exchange (R67). A framing error on that last byte ends the reply BROKEN at once (log entry 13). -/
def Obligations.TrunkByteCollected : Prop :=
  ∀ (t : TrunkId) (b : Byte) (fe : Bool) (s : State), s.startUp.part = .ready →
    let listening := (s.engines[t].phase = .awaiting ∨ s.engines[t].phase = .receiving) ∧ s.engines[t].rxFault = false
    let bs := s.engines[t].rx ++ [b]
    let complete := 6 ≤ bs.length ∧ bs.length = 8 + pairAt bs 4
    (¬ listening ∨ s.engines[t].exch = none → exec (.trunkByteReceived t b fe) s = .next s) ∧
    ∀ (n : NodeId) (x : Exchange), listening → s.engines[t].exch = some x → x.node = some n →
      (¬ complete → exec (.trunkByteReceived t b fe) s = .next (s.modEngine t fun e => { e with
        phase := .receiving, rx := bs
        rxFault := decide (byteAt bs 0 ≠ 0x69 ∨ fe = true ∨ (bs.length = 6 ∧ 260 < pairAt bs 4)) })) ∧
      (complete → fe = true → exec (.trunkByteReceived t b fe) s = .next (s.attemptLost t n x .broken)) ∧
      (complete → fe = false →
        (∀ r : GoodReply, classify x (s.askedBy x) bs = .good r →
          exec (.trunkByteReceived t b fe) s = .next (s.exchangeEnd t n x
            (match r.type with | .ack => .ack r.payload | .nak => .nak (byteAt r.payload 0) | .busy => .busy) r.attention)) ∧
        ((∀ r : GoodReply, classify x (s.askedBy x) bs ≠ .good r) →
          exec (.trunkByteReceived t b fe) s = .next (s.attemptLost t n x (classify x (s.askedBy x) bs))))

/-- The class of a complete reply without framing errors (R49, R56, R57, R58), in the order of the rules. -/
def Obligations.ReplyClassification : Prop :=
  (let advance (r : Word) : Word := if r.getLsbD 15 then (r <<< 1) ^^^ 0x1021 else r <<< 1
   trunkCheck [] = 0xFFFF ∧
   ∀ (bs : List Byte) (b : Byte), trunkCheck (bs ++ [b]) = advance (advance (advance (advance (advance (advance (advance
     (advance (trunkCheck bs ^^^ (b.setWidth 16 <<< 8))))))))) ) ∧
  (∀ (x : Exchange) (tag : Byte) (o : Order) (s : State), x.order = some tag → s.table.find tag = some o →
    s.askedBy x = if o.kind = .bulkFetch then min 256 (o.length - o.progress) else o.length) ∧
  ∀ (x : Exchange) (n : NodeId) (asked : Nat) (bs : List Byte), x.node = some n → bs.length = 8 + pairAt bs 4 →
    let length := pairAt bs 4
    let type := (byteAt bs 2).toNat % 4
    let attention := byteAt bs 3
    let payload := (bs.drop 6).take length
    let frameGood := byteAt bs 0 = 0x69 ∧ length ≤ 260 ∧
      trunkCheck ((bs.drop 1).take (5 + length)) = byteAt bs (7 + length) ++ byteAt bs (6 + length)
    let ours := byteAt bs 1 = byteOf (n.val % 8 + 1) ∧ (byteAt bs 2).getLsbD 3 = x.seqBit
    let contentGood := attention.toNat ≤ 127 ∧ type ≠ 0 ∧ (type = 1 → ackFits x.type asked length) ∧
      (type = 2 → length = 1) ∧ (type = 3 → length = 0)
    (¬ frameGood → classify x asked bs = .broken) ∧
    (frameGood → ¬ ours → classify x asked bs = .stray) ∧
    (frameGood → ours → ¬ contentGood → classify x asked bs = .broken) ∧
    (frameGood → ours → contentGood →
      (type = 1 → classify x asked bs = .good ⟨.ack, attention, payload⟩) ∧
      (type = 2 → classify x asked bs = .good ⟨.nak, attention, payload⟩) ∧
      (type = 3 → classify x asked bs = .good ⟨.busy, attention, payload⟩))

/-- The end of an exchange with a node, taken by every block in one event (R71, R72, R80, R94 to R98, R112, R138): the record and the
counts, then the order `w` and, when the node is isolated, its QUEUED orders (R25, R96), then the node, the scheduler and the list
`z`, then DISABLED on a STOPPING trunk. A NAK to a RESET_NODE from an UNSEEN node is log entry 29, the order of the blocks log entry
27. -/
def Obligations.ExchangeEndTaken : Prop :=
  (∀ (tag : Byte) (s : State),
    (∀ o : Order, s.table.find tag = some o → o.state = .queued → s.endIsolated tag = s.endOrder tag .nodeIsolated 0) ∧
    (∀ o : Order, s.table.find tag = some o → o.state ≠ .queued → s.endIsolated tag = s) ∧
    (s.table.find tag = none → s.endIsolated tag = s)) ∧
  ∀ (t : TrunkId) (n : NodeId) (x : Exchange) (e : Ending) (attention : Byte) (s : State),
    let u := s.exchangeEnd t n x e attention
    let now := s.interval.tick
    let r := s.nodes[n]
    let inService := r.state = .unseen ∨ r.state = .online
    let failures := min 7 (r.consecutive + 1)
    let isolates := e = .failure ∧ x.single = false ∧ inService ∧ s.trunks[trunkOf n].config.isolation ≤ failures
    let stops := s.trunks[t].state = .stopping
    u.nodes[n] = (match e with
      | .ack _ => { r with seqBit := !r.seqBit, lastExchange := now, consecutive := 0, state :=
          if inService then (if x.type = .resetNode then .unseen else .online) else r.state }
      | .nak _ => { r with seqBit := !r.seqBit, lastExchange := now, consecutive := 0, state :=
          if inService then .online else r.state }
      | .busy => { r with lastExchange := now, consecutive := 0, state := if inService then .online else r.state }
      | .failure => if x.single then { r with lastExchange := now } else
          { r with lastExchange := now, consecutive := failures, total := min 65535 (r.total + 1), state :=
              if inService ∧ s.trunks[trunkOf n].config.isolation ≤ failures then .isolated else r.state }) ∧
    (∀ m : NodeId, m ≠ n → u.nodes[m] = s.nodes[m]) ∧ u.nodeScheds[n].pollDue = false ∧
    (e = .busy → ¬ stops → u.nodeScheds[n] = ⟨some (now + 3), true, false⟩) ∧
    (e ≠ .busy → ¬ stops → u.nodeScheds[n] = { s.nodeScheds[n] with pollDue := false }) ∧
    (isolates → u.notices.flags.getLsbD 2 = true) ∧
    (¬ isolates → u.notices.flags.getLsbD 2 = s.notices.flags.getLsbD 2) ∧
    (attention = 0 → u.attention = s.attention) ∧
    (attention ≠ 0 → (∀ a ∈ s.attention, a.node ≠ n) → u.attention = s.attention ++ [⟨n, attention, 0, false, false⟩]) ∧
    (attention ≠ 0 → (∃ a ∈ s.attention, a.node = n) → u.attention = s.attention.map fun (a : AttentionEntry) =>
      if a.node = n then ⟨n, attention, min 255 (a.repeats + 1), a.seen, a.seen || a.renewed⟩ else a) ∧
    (attention ≠ 0 → s.trunks[trunkOf n].state = .quiet →
      u.trunks[trunkOf n] = { s.trunks[trunkOf n] with state := .active, wait := .none, idleCount := 0 }) ∧
    (stops → u.trunks[t].state = .disabled ∧ u.supplies[t].power = false ∧
      u.engines[t] = ⟨.idle, none, none, [], false, 0⟩) ∧
    (¬ stops → u.engines[t] = { s.engines[t] with
      phase := .guard, exch := none, rx := [], rxFault := false, guardTimes := 2
      grant := s.engines[t].grant.map fun g => { g with ackEnded := match e with | .ack _ => true | _ => false } }) ∧
    (¬ stops → s.trunks[t].state ≠ .disabled →
      let c := s.meters[t].counts
      let d := u.meters[t].counts
      d.started = min 65535 (c.started + 1) ∧ d.good = min 65535 (c.good + if e = .failure then 0 else 1) ∧
      d.noStart = min 65535 (c.noStart + x.noStart) ∧ d.broken = min 65535 (c.broken + x.broken) ∧
      d.stray = min 65535 (c.stray + x.stray) ∧ d.busy = min 65535 (c.busy + if e = .busy then 1 else 0) ∧
      d.retries = min 65535 (c.retries + x.retriesSent) ∧
      (trunkOf n = t → isolates → d.isolations = min 65535 (c.isolations + 1)) ∧
      (¬ isolates → d.isolations = c.isolations) ∧
      ((∀ p, e ≠ .ack p) ∨ x.order = none → d.bytesMoved = min 16777215 c.bytesMoved) ∧
      ∀ (p : List Byte) (tag : Byte) (o : Order), e = .ack p → x.order = some tag → s.table.find tag = some o →
        (o.kind = .pointRead ∨ o.kind = .pointWrite ∨ o.kind = .echoTest →
          d.bytesMoved = min 16777215 (c.bytesMoved + o.length)) ∧
        (o.kind = .bulkFetch → d.bytesMoved = min 16777215 (c.bytesMoved + p.length)) ∧
        (∀ g rest, o.kind = .bulkSend → o.chain = g :: rest →
          d.bytesMoved = min 16777215 (c.bytesMoved + (s.pool.seg g).fill)) ∧
        (o.kind = .nodeReset → d.bytesMoved = min 16777215 c.bytesMoved)) ∧
    let c := s.meters[t].counts
    ∃ v w z : State,
      (∀ m : TrunkId, v.engines[m] = if m = t then { s.engines[t] with
        phase := .guard, exch := none, rx := [], rxFault := false, guardTimes := 2
        grant := s.engines[t].grant.map fun g => { g with ackEnded := match e with | .ack _ => true | _ => false } }
        else s.engines[m]) ∧
      (∀ m : TrunkId, v.meters[m] = if m = t ∧ s.trunks[t].state ≠ .disabled then { s.meters[t] with counts := { c with
        started := min 65535 (c.started + 1), good := min 65535 (c.good + if e = .failure then 0 else 1)
        noStart := min 65535 (c.noStart + x.noStart), broken := min 65535 (c.broken + x.broken)
        stray := min 65535 (c.stray + x.stray), busy := min 65535 (c.busy + if e = .busy then 1 else 0)
        retries := min 65535 (c.retries + x.retriesSent), bytesMoved := min 16777215 (c.bytesMoved + s.bytesMoved x e) } }
        else s.meters[m]) ∧
      v = { s with engines := v.engines, meters := v.meters } ∧
      (¬ isolates → w = v.orderOutcome x e) ∧
      (isolates → w = ((v.orderOutcome x e).table.queue n).foldl (fun v tag => v.endIsolated tag) (v.orderOutcome x e)) ∧
      (∀ m : NodeId, z.nodeScheds[m] = if m ≠ n then s.nodeScheds[m] else if e = .busy then ⟨some (now + 3), true, false⟩
        else { s.nodeScheds[n] with pollDue := false }) ∧
      (∀ m : TrunkId, z.trunks[m] = if attention ≠ 0 ∧ m = trunkOf n ∧ s.trunks[m].state = .quiet then
        { s.trunks[m] with state := .active, wait := .none, idleCount := 0 } else s.trunks[m]) ∧
      (∀ m : TrunkId, z.meters[m] = if isolates ∧ m = trunkOf n ∧ s.trunks[m].state ≠ .disabled then { w.meters[m] with counts :=
        { w.meters[m].counts with isolations := min 65535 (w.meters[m].counts.isolations + 1) } } else w.meters[m]) ∧
      z.notices = (let f := if isolates then w.flagged 0x0004 else w
        if attention = 0 then f else f.levelSet 0x0002 (u.attention.any fun a => !a.seen)).notices ∧
      z = { w with nodes := u.nodes, nodeScheds := z.nodeScheds, trunks := z.trunks, meters := z.meters
                   attention := u.attention, notices := z.notices } ∧
      u = if stops then z.enterDisabled t else z

/-- What the end of an exchange does to its order (R12 to R16, R39, R41, R42, R62, R63, R70), with the segment that a SEND_BLOCK frees
(R30) and the landing of a FETCH_BLOCK (R41, R42). That the landing segment of a fetch is TRUNK_SIDE and empty is kept by every step
(SegmentPoolInvariantKept). -/
def Obligations.OrderTakesOutcome : Prop :=
  ∀ (x : Exchange) (tag : Byte) (s : State) (o : Order), x.order = some tag → s.table.find tag = some o →
    let put (f : Order → Order) (s : State) : State := s.modTable (OrderTable.update tag f)
    let v := put (fun o => { o with retries := min 255 (o.retries + x.retriesSent) }) s
    let marked (v w : State) : State := match o.mark with
      | some .cancel => v.endOrder tag .cancelled 0
      | some .expire => v.endOrder tag .expired 0
      | none => w
    (∀ payload, o.kind = .pointRead → s.orderOutcome x (.ack payload) =
      (put (fun o => { o with inlineData := payload, progress := o.length }) v).endOrder tag .done 0) ∧
    (∀ payload, o.kind = .pointWrite → s.orderOutcome x (.ack payload) =
      (put (fun o => { o with progress := o.length }) v).endOrder tag .done 0) ∧
    (∀ payload, o.kind = .nodeReset → s.orderOutcome x (.ack payload) = v.endOrder tag .done 0) ∧
    (∀ payload : List Byte, o.kind = .echoTest → payload.length = o.length →
      let differing := ((List.range o.length).filter fun i =>
        decide (payload[i]? ≠ some (o.seed.getD 0 + byteOf i))).length
      (differing = 0 → s.orderOutcome x (.ack payload) =
        (put (fun o => { o with progress := o.length }) v).endOrder tag .done 0) ∧
      (differing ≠ 0 → s.orderOutcome x (.ack payload) =
        (put (fun o => { o with progress := differing }) v).endOrder tag .echoMismatch 0)) ∧
    (∀ payload g rest, o.kind = .bulkSend → o.chain = g :: rest →
      let progress := o.progress + (s.pool.seg g).fill
      let freed := v.modPool (SegmentPool.freeSegment g)
      let w := put (fun o => { o with progress := progress, chain := rest }) freed
      (∀ h : SegId, freed.pool.seg h = (if h = g then ⟨.free, none, 0⟩ else s.pool.seg h) ∧
        (h ∈ freed.pool.freeList ↔ h = g ∨ h ∈ s.pool.freeList)) ∧
      freed.pool.mem = s.pool.mem ∧
      (o.length ≤ progress → s.orderOutcome x (.ack payload) = w.endOrder tag .done 0) ∧
      (progress < o.length → s.orderOutcome x (.ack payload) = marked w w)) ∧
    (∀ payload : List Byte, o.kind = .bulkFetch →
      let progress := o.progress + payload.length
      let asked := min 256 (o.length - o.progress)
      let landed := v.modPool (SegmentPool.writeData .trunkSide tag o.chain o.progress payload)
      let handed := match o.chain[o.progress / 256]? with
        | some g => if payload.length = 256 then landed.modPool (SegmentPool.setOwner .hostSide g) else landed
        | none => landed
      let w := put (fun o => { o with progress := progress }) handed
      (∀ g : SegId, o.chain[o.progress / 256]? = some g → o.progress % 256 = 0 → s.pool.seg g = ⟨.trunkSide, some tag, 0⟩ →
        payload.length ≤ 256 → Memory.wf s.pool.mem →
        let mem := (s.orderOutcome x (.ack payload)).pool.mem
        (∀ i, i < payload.length → some (Memory.read mem (256 * g.val + i)) = payload[i]?) ∧
        (∀ a, a < 256 * g.val ∨ 256 * g.val + payload.length ≤ a → Memory.read mem a = Memory.read s.pool.mem a) ∧
        (∀ h : SegId, handed.pool.seg h = if h = g then
          ⟨if payload.length = 256 then .hostSide else .trunkSide, some tag, payload.length⟩ else s.pool.seg h) ∧
        handed.pool.freeList = s.pool.freeList) ∧
      (o.length ≤ progress ∨ payload.length < asked → s.orderOutcome x (.ack payload) = w.endOrder tag .done 0) ∧
      (¬ (o.length ≤ progress ∨ payload.length < asked) → s.orderOutcome x (.ack payload) = marked w w)) ∧
    (∀ reason, s.orderOutcome x (.nak reason) = marked v (v.endOrder tag .nodeRejected reason)) ∧
    (8 ≤ x.busyCount + 1 → s.orderOutcome x .busy = marked v (v.endOrder tag .nodeBusy 0)) ∧
    (x.busyCount + 1 < 8 → s.orderOutcome x .busy = marked v
      (v.setHeld o.node (some ⟨tag, x.type, x.seqBit, x.resync, x.mode, x.attempts, x.busyCount + 1⟩))) ∧
    s.orderOutcome x .failure = marked v (v.endOrder tag .noReply 0)

/-- GUARD_END (R59, R60, R88, R89): the retry due, the next exchange of a burst, or IDLE with the trunk-free event that may
follow. Nothing where no guard runs (log entry 2). -/
def Obligations.GuardEndEffect : Prop :=
  ∀ (t : TrunkId) (s : State), s.startUp.part = .ready →
    (s.engines[t].phase ≠ .guard → exec (.guardEnd t) s = .next s) ∧
    (s.engines[t].phase = .guard →
      (∀ x : Exchange, s.engines[t].exch = some x → exec (.guardEnd t) s = .next (s.modEngine t fun e => { e with
        phase := .sending, exch := some { x with retriesSent := x.retriesSent + 1 }, rx := [], rxFault := false
        guardTimes := 0 })) ∧
      (s.engines[t].exch = none →
        (∀ n o burst, s.burstContinues t n o burst →
          exec (.guardEnd t) s = .next (s.startOrderExchange n o (burst + 1))) ∧
        ((¬ ∃ n o burst, s.burstContinues t n o burst) → exec (.guardEnd t) s = .next
          ((s.modEngine t fun e => { e with phase := .idle, exch := none, grant := none, guardTimes := 0 }).trunkFree t))))

/-- The start of an order exchange and of a poll (R10, R48, R50 to R53, R60, R61, R63, R87, R120): the record, the frame, the
grant. The codes of the exchange types (3.3) and the type of each order kind (R3). -/
def Obligations.ExchangeStarts : Prop :=
  [ExchangeType.poll, .get, .put, .sendBlock, .fetchBlock, .echo, .resetNode, .announce].map ExchangeType.code =
    [0, 1, 2, 3, 4, 5, 6, 7] ∧
  [OrderKind.pointRead, .pointWrite, .bulkSend, .bulkFetch, .echoTest, .nodeReset].map OrderKind.exchangeType =
    [.get, .put, .sendBlock, .fetchBlock, .echo, .resetNode] ∧
  let frameOf (n : NodeId) (x : Exchange) (payload : List Byte) : List Byte :=
    let body := byteOf (n.val % 8 + 1) :: (x.type.code ||| (if x.seqBit then 8 else 0) ||| (if x.resync then 16 else 0)) ::
      byteOf x.mode.toNat :: (leNat payload.length ++ payload)
    0x96#8 :: (body ++ leWord (trunkCheck body))
  let fresh (s : State) (n : NodeId) (x : Exchange) : Prop :=
    x.seqBit = s.nodes[n].seqBit ∧ (x.resync = true ↔ s.nodes[n].state = .unseen ∨ 0 < s.nodes[n].consecutive) ∧
    x.mode = s.trunks[trunkOf n].mode ∧ x.attempts = 0 ∧ x.busyCount = 0
  let opening (x : Exchange) : Prop := x.retriesSent = 0 ∧ x.noStart = 0 ∧ x.broken = 0 ∧ x.stray = 0
  (∀ (n : NodeId) (o : Order) (burst : Nat) (s : State), s.table.find o.tag = some o → o.node = n →
    let u := s.startOrderExchange n o burst
    let isHeld := ∃ h, s.held[n] = some h ∧ h.tag = o.tag
    ∃ (x : Exchange) (payload : List Byte),
      u.engines[trunkOf n] = ⟨.sending, some x, some ⟨.order, some n, some o.tag, burst, false⟩, [], false, 0⟩ ∧
      x.node = some n ∧ x.order = some o.tag ∧ x.single = false ∧ opening x ∧ x.frame = frameOf n x payload ∧
      (o.kind = .pointRead → payload = leWord (o.point.getD 0) ++ [byteOf o.length]) ∧
      (o.kind = .pointWrite → payload = leWord (o.point.getD 0) ++ o.inlineData) ∧
      (∀ g rest, o.kind = .bulkSend → o.chain = g :: rest → (s.pool.seg g).owner = .trunkSide →
        (s.pool.seg g).tag = some o.tag → payload = leNat o.progress ++ leNat o.length ++
          (List.range (s.pool.seg g).fill).map fun i => Memory.read s.pool.mem (256 * g.val + i)) ∧
      (o.kind = .bulkFetch → payload = leNat o.progress ++ leNat (min 256 (o.length - o.progress))) ∧
      (o.kind = .echoTest → payload = (List.range o.length).map fun i => o.seed.getD 0 + byteOf i) ∧
      (o.kind = .nodeReset → payload = []) ∧
      (∀ h, s.held[n] = some h → h.tag = o.tag → x.type = h.type ∧ x.seqBit = h.seqBit ∧ x.resync = h.resync ∧
        x.mode = h.mode ∧ x.attempts = h.attempts ∧ x.busyCount = h.busyCount ∧ u.held[n] = none) ∧
      (¬ isHeld → x.type = o.kind.exchangeType ∧ fresh s n x ∧ u.held[n] = s.held[n]) ∧
      (∀ m : NodeId, m ≠ n → u.held[m] = s.held[m]) ∧
      u.table.find o.tag = some { o with state := .active } ∧
      (∀ v : Byte, v ≠ o.tag → u.table.find v = s.table.find v) ∧ u.table.queues = s.table.queues ∧
      u.table.backlog = s.table.backlog ∧
      u.trunks[trunkOf n] = { s.trunks[trunkOf n] with orderExchange := true } ∧
      (∀ m : TrunkId, m ≠ trunkOf n → u.trunks[m] = s.trunks[m] ∧ u.engines[m] = s.engines[m]) ∧
      u = { s with table := u.table, held := u.held, trunks := u.trunks, engines := u.engines }) ∧
  ∀ (n : NodeId) (s : State),
    let u := s.startPoll n
    ∃ x : Exchange,
      u.engines[trunkOf n] = ⟨.sending, some x, some ⟨.poll, some n, none, 1, false⟩, [], false, 0⟩ ∧
      x.node = some n ∧ x.order = none ∧ x.type = .poll ∧ (x.single = true ↔ s.nodes[n].state = .unseen) ∧ opening x ∧
      fresh s n x ∧ x.frame = frameOf n x [] ∧ (∀ m : TrunkId, m ≠ trunkOf n → u.engines[m] = s.engines[m]) ∧
      u = { s with engines := u.engines }

/-! ## Grants -/

/-- The candidates (R79, R82), and the trunk-free event: when it takes place (R76, R77), the group served (R84), the node chosen
(R85), the pass-over counts (R86), the grant (R87) and the announce (R69, R78). -/
def Obligations.TrunkFreeEvent : Prop :=
  (∀ (n : NodeId) (s : State),
    let ready := (s.nodes[n].state = .unseen ∨ s.nodes[n].state = .online) ∧ s.nodeScheds[n].inForce = false
    let offered (c : OrderClass) : Prop := ready ∧ ∃ o, s.table.head n = some o ∧ o.cls = c ∧
      (o.state = .queued ∨ (o.state = .active ∧ s.orderInFlight o = false))
    (s.candidate .urgent n = true ↔ offered .urgent) ∧ (s.candidate .routine n = true ↔ offered .routine) ∧
    (s.candidate .poll n = true ↔ ready ∧ s.table.queue n = [] ∧ s.nodeScheds[n].pollDue = true) ∧
    s.candidate .announce n = false) ∧
  ∀ (t : TrunkId) (s : State),
    let u := s.trunkFree t
    let c := s.scheds[t]
    let k := s.trunks[t].config
    let free := s.startUp.part = .ready ∧ (s.trunks[t].state = .active ∨ s.trunks[t].state = .quiet) ∧
      s.trunks[t].wait ≠ .settle ∧ s.engines[t].phase = .idle ∧ s.engines[t].exch = none
    let cand (g : Group) (n : NodeId) : Prop := trunkOf n = t ∧ s.candidate g n = true
    let has (g : Group) : Prop := ∃ n, cand g n
    (¬ free → u = s) ∧
    (free → c.announce = false → (∀ g, ¬ has g) → u = s) ∧
    (free → c.announce = true →
      u.scheds[t] = { c with announce := false
                             passR := if has .routine then min k.guardLimit (c.passR + 1) else 0
                             passP := if has .poll then min k.guardLimit (c.passP + 1) else 0 } ∧
      (∃ x : Exchange, u.engines[t] = ⟨.sending, some x, some ⟨.announce, none, none, 1, false⟩, [], false, 0⟩ ∧
        x.node = none ∧ x.order = none ∧ x.type = .announce ∧
        (let body := [0#8, 7, byteOf s.trunks[t].mode.toNat, 0, 0]
         x.frame = 0x96#8 :: (body ++ leWord (trunkCheck body)))) ∧
      (∀ m : TrunkId, m ≠ t → u.scheds[m] = s.scheds[m] ∧ u.engines[m] = s.engines[m]) ∧
      u = { s with scheds := u.scheds, engines := u.engines }) ∧
    (free → c.announce = false → (∃ g, has g) → ∃ (g : Group) (n : NodeId), cand g n ∧
      (g = .routine → k.guardLimit ≤ c.passR ∨ (¬ (k.guardLimit ≤ c.passP ∧ has .poll) ∧ ¬ has .urgent)) ∧
      (g = .poll → ¬ (k.guardLimit ≤ c.passR ∧ has .routine) ∧
        (k.guardLimit ≤ c.passP ∨ (¬ has .urgent ∧ ¬ has .routine))) ∧
      (g = .urgent → ¬ (k.guardLimit ≤ c.passR ∧ has .routine) ∧ ¬ (k.guardLimit ≤ c.passP ∧ has .poll)) ∧
      (let rotates := match g with | .urgent => k.rotateU | .routine => k.rotateR | .poll => k.rotateP | .announce => false
       let pointer := match g with | .urgent => c.ptrU | .routine => c.ptrR | .poll => c.ptrP | .announce => 0
       (rotates = true → ∀ m, cand g m → (n.val % 8 + 7 - pointer.val) % 8 ≤ (m.val % 8 + 7 - pointer.val) % 8) ∧
       (rotates = false → ∀ m, cand g m → n.val ≤ m.val)) ∧
      u.scheds[t] =
        { ptrU := if g = .urgent ∧ k.rotateU then slotOf n else c.ptrU
          ptrR := if g = .routine ∧ k.rotateR then slotOf n else c.ptrR
          ptrP := if g = .poll ∧ k.rotateP then slotOf n else c.ptrP
          passR := if g = .routine ∨ ¬ has .routine then 0 else if g = .urgent then min k.guardLimit (c.passR + 1) else c.passR
          passP := if g = .poll ∨ ¬ has .poll then 0 else min k.guardLimit (c.passP + 1)
          announce := false } ∧
      (g = .poll → u = (s.modSched t fun _ => u.scheds[t]).startPoll n) ∧
      (g ≠ .poll → ∃ o, s.table.head n = some o ∧ u = (s.modSched t fun _ => u.scheds[t]).startOrderExchange n o 1))

/-! ## Supplies -/

/-- SENSE_CHANGE (R108, R109), SETTLE_END (R111) and TRUNK_RECOVERY (R117, R77, R78, R99). Nothing at the end of a timer that does not
run (log entry 2). -/
def Obligations.SupplyWaitsEnd : Prop :=
  (∀ (t : TrunkId) (good : Bool) (s : State),
    let m := s.supplies[t]
    let c := s.trunks[t]
    (m.senseGood = good → exec (.senseChange t good) s = .next s) ∧
    (m.senseGood ≠ good → m.power = false →
      exec (.senseChange t good) s = .next (s.modSupply t fun m => { m with senseGood := good })) ∧
    (m.senseGood ≠ good → m.power = true → exec (.senseChange t good) s = .next (s.modSupply t fun _ =>
      { power := true, senseGood := good, supplyLow := !good
        faultFilter := decide (good = false ∧ c.state ≠ .down)
        settleTimer := decide (good = true ∧ c.state = .active ∧ c.wait = .settle)
        recoveryTimer := decide (good = true ∧ c.state = .down) }))) ∧
  ∀ (t : TrunkId) (s : State), s.startUp.part = .ready →
    let settles := s.supplies[t].settleTimer = true ∧ s.trunks[t].state = .active ∧ s.trunks[t].wait = .settle
    let recovers := s.supplies[t].recoveryTimer = true ∧ s.trunks[t].state = .down
    (¬ settles → exec (.settleEnd t) s = .next s) ∧
    (settles → exec (.settleEnd t) s = .next
      (((s.modSupply t fun m => { m with settleTimer := false }).modTrunk t fun c => { c with wait := .none }).trunkFree t)) ∧
    (¬ recovers → exec (.trunkRecovery t) s = .next s) ∧
    (recovers → ∃ v : State, exec (.trunkRecovery t) s = .next (v.trunkFree t) ∧
      v.trunks[t] = { s.trunks[t] with state := .active, wait := .none, idleCount := 0 } ∧
      v.supplies[t] = { s.supplies[t] with recoveryTimer := false } ∧
      v.scheds[t] = ⟨7, 7, 7, 0, 0, decide (s.trunks[t].mode ≠ 63)⟩ ∧
      (∀ m : TrunkId, m ≠ t → v.trunks[m] = s.trunks[m] ∧ v.supplies[m] = s.supplies[m] ∧ v.scheds[m] = s.scheds[m]) ∧
      (∀ n : NodeId, v.nodes[n] =
        if trunkOf n = t ∧ s.nodes[n].state = .online then { s.nodes[n] with state := .unseen } else s.nodes[n]) ∧
      v.notices = (s.flagged 0x0010).notices ∧
      v = { s with trunks := v.trunks, supplies := v.supplies, scheds := v.scheds, nodes := v.nodes, notices := v.notices })

/-- SUPPLY_FAULT by the state of the trunk (R109, R115, R116, R72, R73, R77, R157). Nothing where the fault filter does not run (log
entry 2). -/
def Obligations.SupplyFaultEffect : Prop :=
  ∀ (t : TrunkId) (s : State), s.startUp.part = .ready →
    let running := s.trunks[t].state = .active ∨ s.trunks[t].state = .quiet
    let nodeExchange := ∃ x, s.engines[t].exch = some x ∧ x.node ≠ none
    let c := s.meters[t].counts
    let aborted (a : State) : Prop :=
      (∀ n : NodeId, a.held[n] = if trunkOf n = t then none else s.held[n]) ∧
      (∀ m : TrunkId, a.engines[m] = if m = t then ⟨.idle, none, none, [], false, 0⟩ else s.engines[m]) ∧
      (∀ x, s.engines[t].exch = some x → x.node ≠ none → a.meters[t] = { s.meters[t] with counts := { c with
        started := min 65535 (c.started + 1), noStart := min 65535 (c.noStart + x.noStart)
        broken := min 65535 (c.broken + x.broken), stray := min 65535 (c.stray + x.stray)
        retries := min 65535 (c.retries + x.retriesSent) } }) ∧
      (∀ m : TrunkId, m ≠ t → a.meters[m] = s.meters[m]) ∧ (¬ nodeExchange → a.meters = s.meters) ∧
      a = { s with held := a.held, engines := a.engines, meters := a.meters }
    let noticed (e u : State) : Prop :=
      u.notices = { (e.flagged 0x0008).notices with faultSeen := u.notices.faultSeen } ∧
      (∀ m : TrunkId, u.notices.faultSeen[m] = if m = t then true else s.notices.faultSeen[m])
    (s.supplies[t].faultFilter = false ∨ s.trunks[t].state = .down ∨ s.trunks[t].state = .disabled →
      exec (.supplyFault t) s = .next s) ∧
    (s.supplies[t].faultFilter = true → running →
      ∃ u a e : State, exec (.supplyFault t) s = .next u ∧ aborted a ∧
        e = ((trunkNodes t).flatMap s.table.queue).foldl (fun v tag => v.endOrder tag .trunkDown 0) a ∧ noticed e u ∧
        (∀ m : TrunkId, u.meters[m] = if m = t then { e.meters[t] with wasDown := true } else e.meters[m]) ∧
        u.trunks[t] = { s.trunks[t] with state := .down, wait := .recovery } ∧
        u.supplies[t] = { s.supplies[t] with faultFilter := false, settleTimer := false } ∧
        u.scheds[t] = { s.scheds[t] with announce := false } ∧
        (∀ n : NodeId, u.nodeScheds[n] =
          if trunkOf n = t then { s.nodeScheds[n] with expiry := none, inForce := false } else s.nodeScheds[n]) ∧
        (∀ m : TrunkId, m ≠ t → u.trunks[m] = s.trunks[m] ∧ u.supplies[m] = s.supplies[m] ∧ u.scheds[m] = s.scheds[m]) ∧
        u = { e with trunks := u.trunks, supplies := u.supplies, scheds := u.scheds, nodeScheds := u.nodeScheds
                     meters := u.meters, notices := u.notices }) ∧
    (s.supplies[t].faultFilter = true → s.trunks[t].state = .stopping →
      ∃ u a e : State, exec (.supplyFault t) s = .next u ∧ aborted a ∧
        (∀ x tag, s.engines[t].exch = some x → x.order = some tag → e = a.endOrder tag .cancelled 0) ∧
        ((¬ ∃ x tag, s.engines[t].exch = some x ∧ x.order = some tag) → e = a) ∧ noticed e u ∧
        u = { e.enterDisabled t with notices := u.notices })

/-! ## What every step keeps -/

/-- The backlog is empty whenever the Completion Queue has room (R125, R130). -/
def Obligations.PostingInvariantKept : Prop := KeptByStep State.postingInv

/-- ATTN and the level flags follow their conditions, and no flag stands at the positions 9 to 15 (8.3, R135, R142, R144,
R148). -/
def Obligations.NoticesInvariantKept : Prop := KeptByStep State.noticesInv

/-- The segment memory keeps its canonical form and its bounds, the free list is the FREE segments in ascending order (R29, R30), and
every other segment is in the chain of one live order, on the side that the order's state gives it (R29, R32, R33, R38, R41 to R43). -/
def Obligations.SegmentPoolInvariantKept : Prop :=
  KeptByStep State.memoryInv ∧ KeptByStep State.freeListInv ∧ KeptByStep fun s => s.OrdersInv ∧ s.freeListInv ∧ s.ChainsInv

/-- What a trunk state allows (R107, R108, R52, R78), the outputs while no trunk is in service (R178, R179, R181), and what an
exchange in flight, a grant and a held exchange belong to (R52, R63, R87). That STOPPING has the announce flag clear is log entry
30. -/
def Obligations.TrunkInvariantKept : Prop :=
  (KeptByStep fun s => s.trunkInv ∧ s.quietInv) ∧ KeptByStep fun s => s.OrdersInv ∧ s.ExchangesInv

/-- The receiver, its buffer and its reply agree (R165, R167, R172). That the buffer is empty in HUNTING is, after a reply, a broadcast or
a frame for another unit, log entry 23. -/
def Obligations.HostLineInvariantKept : Prop := KeptByStep State.hostLineInv

/-- The interval stays in its range (R151, R152), no node queue holds more than 6 orders (R7), and the Order Table, the node queues, the
backlog and the exchanges in flight agree (R1, R2, R7, R128). -/
def Obligations.IntervalAndQueueInvariantsKept : Prop :=
  KeptByStep State.intervalInv ∧ KeptByStep State.queueInv ∧ KeptByStep State.OrdersInv

/-- The reset state has all of these invariants. -/
def Obligations.InvariantsHoldAtReset : Prop :=
  State.reset.postingInv ∧ State.reset.noticesInv ∧ State.reset.memoryInv ∧ State.reset.freeListInv ∧ State.reset.trunkInv ∧
  State.reset.quietInv ∧ State.reset.hostLineInv ∧ State.reset.intervalInv ∧ State.reset.queueInv ∧ State.reset.OrdersInv ∧
  State.reset.ExchangesInv ∧ State.reset.ChainsInv
end

