-- ==== Sys2Proof/Laws/State.lean ====
section
/-! SUPPORT. One lemma for each field of State and each update of one part, and the lemmas of an update of one place. -/

namespace Sys2Proof.Machine

open Sys2Proof

/-! ## One place of a vector -/

theorem upd_same {α : Type} {n : Nat} (v : Vector α n) (i : Fin n) (f : α → α) : (upd v i f)[i] = f v[i] := by
  simp [upd]

@[simp] theorem upd_same_val {α : Type} {n : Nat} (v : Vector α n) (i : Fin n) (f : α → α) :
    (upd v i f)[i.val] = f v[i.val] := by
  simp [upd]

theorem upd_other {α : Type} {n : Nat} (v : Vector α n) (i j : Fin n) (f : α → α) (h : j ≠ i) : (upd v i f)[j] = v[j] := by
  have h' : i.val ≠ j.val := fun e => h (Fin.ext e.symm)
  simp [upd, Vector.getElem_set_ne, h']

theorem upd_get {α : Type} {n : Nat} (v : Vector α n) (i j : Fin n) (f : α → α) :
    (upd v i f)[j] = if j = i then f v[j] else v[j] := by
  split
  · subst j; exact upd_same v i f
  · exact upd_other v i j f ‹_›

@[simp] theorem upd_id {α : Type} {n : Nat} (v : Vector α n) (i : Fin n) : (upd v i fun x => x) = v := by
  simp [upd]

/-! ## A list of operations -/

@[simp] theorem forAll_nil {α : Type} (f : α → State → State) (s : State) : forAll f [] s = s := rfl

@[simp] theorem forAll_cons {α : Type} (f : α → State → State) (a : α) (l : List α) (s : State) :
    forAll f (a :: l) s = forAll f l (f a s) := rfl

/-- A relation that is reflexive and transitive and that each operation keeps is kept by the whole list. -/
theorem forAll_rel {α : Type} {r : State → State → Prop} (refl : ∀ s, r s s) (trans : ∀ {a b c}, r a b → r b c → r a c)
    (f : α → State → State) (h : ∀ a s, r s (f a s)) (l : List α) (s : State) : r s (forAll f l s) := by
  induction l generalizing s with
  | nil => exact refl s
  | cons a l ih => exact trans (h a s) (ih (f a s))

/-- A property that each operation keeps is kept by the whole list. -/
theorem forAll_inv {α : Type} {p : State → Prop} (f : α → State → State) (h : ∀ a s, p s → p (f a s)) (l : List α)
    (s : State) (hs : p s) : p (forAll f l s) := by
  induction l generalizing s with
  | nil => exact hs
  | cons a l ih => exact ih (f a s) (h a s hs)

/-! ## The fields after an update of one part -/

@[simp] theorem State.modHostLine_pending (f : HostLine → HostLine) (s : State) : (s.modHostLine f).pending = s.pending := rfl
@[simp] theorem State.modHostLine_startUp (f : HostLine → HostLine) (s : State) : (s.modHostLine f).startUp = s.startUp := rfl
@[simp] theorem State.modHostLine_hostLine (f : HostLine → HostLine) (s : State) : (s.modHostLine f).hostLine = f s.hostLine := rfl
@[simp] theorem State.modHostLine_table (f : HostLine → HostLine) (s : State) : (s.modHostLine f).table = s.table := rfl
@[simp] theorem State.modHostLine_pool (f : HostLine → HostLine) (s : State) : (s.modHostLine f).pool = s.pool := rfl
@[simp] theorem State.modHostLine_nodes (f : HostLine → HostLine) (s : State) : (s.modHostLine f).nodes = s.nodes := rfl
@[simp] theorem State.modHostLine_nodeScheds (f : HostLine → HostLine) (s : State) : (s.modHostLine f).nodeScheds = s.nodeScheds := rfl
@[simp] theorem State.modHostLine_held (f : HostLine → HostLine) (s : State) : (s.modHostLine f).held = s.held := rfl
@[simp] theorem State.modHostLine_scheds (f : HostLine → HostLine) (s : State) : (s.modHostLine f).scheds = s.scheds := rfl
@[simp] theorem State.modHostLine_engines (f : HostLine → HostLine) (s : State) : (s.modHostLine f).engines = s.engines := rfl
@[simp] theorem State.modHostLine_trunks (f : HostLine → HostLine) (s : State) : (s.modHostLine f).trunks = s.trunks := rfl
@[simp] theorem State.modHostLine_supplies (f : HostLine → HostLine) (s : State) : (s.modHostLine f).supplies = s.supplies := rfl
@[simp] theorem State.modHostLine_completions (f : HostLine → HostLine) (s : State) : (s.modHostLine f).completions = s.completions := rfl
@[simp] theorem State.modHostLine_attention (f : HostLine → HostLine) (s : State) : (s.modHostLine f).attention = s.attention := rfl
@[simp] theorem State.modHostLine_notices (f : HostLine → HostLine) (s : State) : (s.modHostLine f).notices = s.notices := rfl
@[simp] theorem State.modHostLine_interval (f : HostLine → HostLine) (s : State) : (s.modHostLine f).interval = s.interval := rfl
@[simp] theorem State.modHostLine_meters (f : HostLine → HostLine) (s : State) : (s.modHostLine f).meters = s.meters := rfl
@[simp] theorem State.modHostLine_claims (f : HostLine → HostLine) (s : State) : (s.modHostLine f).claims = s.claims := rfl

@[simp] theorem State.modTable_pending (f : OrderTable → OrderTable) (s : State) : (s.modTable f).pending = s.pending := rfl
@[simp] theorem State.modTable_startUp (f : OrderTable → OrderTable) (s : State) : (s.modTable f).startUp = s.startUp := rfl
@[simp] theorem State.modTable_hostLine (f : OrderTable → OrderTable) (s : State) : (s.modTable f).hostLine = s.hostLine := rfl
@[simp] theorem State.modTable_table (f : OrderTable → OrderTable) (s : State) : (s.modTable f).table = f s.table := rfl
@[simp] theorem State.modTable_pool (f : OrderTable → OrderTable) (s : State) : (s.modTable f).pool = s.pool := rfl
@[simp] theorem State.modTable_nodes (f : OrderTable → OrderTable) (s : State) : (s.modTable f).nodes = s.nodes := rfl
@[simp] theorem State.modTable_nodeScheds (f : OrderTable → OrderTable) (s : State) : (s.modTable f).nodeScheds = s.nodeScheds := rfl
@[simp] theorem State.modTable_held (f : OrderTable → OrderTable) (s : State) : (s.modTable f).held = s.held := rfl
@[simp] theorem State.modTable_scheds (f : OrderTable → OrderTable) (s : State) : (s.modTable f).scheds = s.scheds := rfl
@[simp] theorem State.modTable_engines (f : OrderTable → OrderTable) (s : State) : (s.modTable f).engines = s.engines := rfl
@[simp] theorem State.modTable_trunks (f : OrderTable → OrderTable) (s : State) : (s.modTable f).trunks = s.trunks := rfl
@[simp] theorem State.modTable_supplies (f : OrderTable → OrderTable) (s : State) : (s.modTable f).supplies = s.supplies := rfl
@[simp] theorem State.modTable_completions (f : OrderTable → OrderTable) (s : State) : (s.modTable f).completions = s.completions := rfl
@[simp] theorem State.modTable_attention (f : OrderTable → OrderTable) (s : State) : (s.modTable f).attention = s.attention := rfl
@[simp] theorem State.modTable_notices (f : OrderTable → OrderTable) (s : State) : (s.modTable f).notices = s.notices := rfl
@[simp] theorem State.modTable_interval (f : OrderTable → OrderTable) (s : State) : (s.modTable f).interval = s.interval := rfl
@[simp] theorem State.modTable_meters (f : OrderTable → OrderTable) (s : State) : (s.modTable f).meters = s.meters := rfl
@[simp] theorem State.modTable_claims (f : OrderTable → OrderTable) (s : State) : (s.modTable f).claims = s.claims := rfl

@[simp] theorem State.modPool_pending (f : SegmentPool → SegmentPool) (s : State) : (s.modPool f).pending = s.pending := rfl
@[simp] theorem State.modPool_startUp (f : SegmentPool → SegmentPool) (s : State) : (s.modPool f).startUp = s.startUp := rfl
@[simp] theorem State.modPool_hostLine (f : SegmentPool → SegmentPool) (s : State) : (s.modPool f).hostLine = s.hostLine := rfl
@[simp] theorem State.modPool_table (f : SegmentPool → SegmentPool) (s : State) : (s.modPool f).table = s.table := rfl
@[simp] theorem State.modPool_pool (f : SegmentPool → SegmentPool) (s : State) : (s.modPool f).pool = f s.pool := rfl
@[simp] theorem State.modPool_nodes (f : SegmentPool → SegmentPool) (s : State) : (s.modPool f).nodes = s.nodes := rfl
@[simp] theorem State.modPool_nodeScheds (f : SegmentPool → SegmentPool) (s : State) : (s.modPool f).nodeScheds = s.nodeScheds := rfl
@[simp] theorem State.modPool_held (f : SegmentPool → SegmentPool) (s : State) : (s.modPool f).held = s.held := rfl
@[simp] theorem State.modPool_scheds (f : SegmentPool → SegmentPool) (s : State) : (s.modPool f).scheds = s.scheds := rfl
@[simp] theorem State.modPool_engines (f : SegmentPool → SegmentPool) (s : State) : (s.modPool f).engines = s.engines := rfl
@[simp] theorem State.modPool_trunks (f : SegmentPool → SegmentPool) (s : State) : (s.modPool f).trunks = s.trunks := rfl
@[simp] theorem State.modPool_supplies (f : SegmentPool → SegmentPool) (s : State) : (s.modPool f).supplies = s.supplies := rfl
@[simp] theorem State.modPool_completions (f : SegmentPool → SegmentPool) (s : State) : (s.modPool f).completions = s.completions := rfl
@[simp] theorem State.modPool_attention (f : SegmentPool → SegmentPool) (s : State) : (s.modPool f).attention = s.attention := rfl
@[simp] theorem State.modPool_notices (f : SegmentPool → SegmentPool) (s : State) : (s.modPool f).notices = s.notices := rfl
@[simp] theorem State.modPool_interval (f : SegmentPool → SegmentPool) (s : State) : (s.modPool f).interval = s.interval := rfl
@[simp] theorem State.modPool_meters (f : SegmentPool → SegmentPool) (s : State) : (s.modPool f).meters = s.meters := rfl
@[simp] theorem State.modPool_claims (f : SegmentPool → SegmentPool) (s : State) : (s.modPool f).claims = s.claims := rfl

@[simp] theorem State.modNode_pending (n : NodeId) (f : NodeRecord → NodeRecord) (s : State) : (s.modNode n f).pending = s.pending := rfl
@[simp] theorem State.modNode_startUp (n : NodeId) (f : NodeRecord → NodeRecord) (s : State) : (s.modNode n f).startUp = s.startUp := rfl
@[simp] theorem State.modNode_hostLine (n : NodeId) (f : NodeRecord → NodeRecord) (s : State) : (s.modNode n f).hostLine = s.hostLine := rfl
@[simp] theorem State.modNode_table (n : NodeId) (f : NodeRecord → NodeRecord) (s : State) : (s.modNode n f).table = s.table := rfl
@[simp] theorem State.modNode_pool (n : NodeId) (f : NodeRecord → NodeRecord) (s : State) : (s.modNode n f).pool = s.pool := rfl
@[simp] theorem State.modNode_nodes (n : NodeId) (f : NodeRecord → NodeRecord) (s : State) : (s.modNode n f).nodes = upd s.nodes n f := rfl
@[simp] theorem State.modNode_nodeScheds (n : NodeId) (f : NodeRecord → NodeRecord) (s : State) : (s.modNode n f).nodeScheds = s.nodeScheds := rfl
@[simp] theorem State.modNode_held (n : NodeId) (f : NodeRecord → NodeRecord) (s : State) : (s.modNode n f).held = s.held := rfl
@[simp] theorem State.modNode_scheds (n : NodeId) (f : NodeRecord → NodeRecord) (s : State) : (s.modNode n f).scheds = s.scheds := rfl
@[simp] theorem State.modNode_engines (n : NodeId) (f : NodeRecord → NodeRecord) (s : State) : (s.modNode n f).engines = s.engines := rfl
@[simp] theorem State.modNode_trunks (n : NodeId) (f : NodeRecord → NodeRecord) (s : State) : (s.modNode n f).trunks = s.trunks := rfl
@[simp] theorem State.modNode_supplies (n : NodeId) (f : NodeRecord → NodeRecord) (s : State) : (s.modNode n f).supplies = s.supplies := rfl
@[simp] theorem State.modNode_completions (n : NodeId) (f : NodeRecord → NodeRecord) (s : State) : (s.modNode n f).completions = s.completions := rfl
@[simp] theorem State.modNode_attention (n : NodeId) (f : NodeRecord → NodeRecord) (s : State) : (s.modNode n f).attention = s.attention := rfl
@[simp] theorem State.modNode_notices (n : NodeId) (f : NodeRecord → NodeRecord) (s : State) : (s.modNode n f).notices = s.notices := rfl
@[simp] theorem State.modNode_interval (n : NodeId) (f : NodeRecord → NodeRecord) (s : State) : (s.modNode n f).interval = s.interval := rfl
@[simp] theorem State.modNode_meters (n : NodeId) (f : NodeRecord → NodeRecord) (s : State) : (s.modNode n f).meters = s.meters := rfl
@[simp] theorem State.modNode_claims (n : NodeId) (f : NodeRecord → NodeRecord) (s : State) : (s.modNode n f).claims = s.claims := rfl

@[simp] theorem State.modNodeSched_pending (n : NodeId) (f : NodeSchedule → NodeSchedule) (s : State) : (s.modNodeSched n f).pending = s.pending := rfl
@[simp] theorem State.modNodeSched_startUp (n : NodeId) (f : NodeSchedule → NodeSchedule) (s : State) : (s.modNodeSched n f).startUp = s.startUp := rfl
@[simp] theorem State.modNodeSched_hostLine (n : NodeId) (f : NodeSchedule → NodeSchedule) (s : State) : (s.modNodeSched n f).hostLine = s.hostLine := rfl
@[simp] theorem State.modNodeSched_table (n : NodeId) (f : NodeSchedule → NodeSchedule) (s : State) : (s.modNodeSched n f).table = s.table := rfl
@[simp] theorem State.modNodeSched_pool (n : NodeId) (f : NodeSchedule → NodeSchedule) (s : State) : (s.modNodeSched n f).pool = s.pool := rfl
@[simp] theorem State.modNodeSched_nodes (n : NodeId) (f : NodeSchedule → NodeSchedule) (s : State) : (s.modNodeSched n f).nodes = s.nodes := rfl
@[simp] theorem State.modNodeSched_nodeScheds (n : NodeId) (f : NodeSchedule → NodeSchedule) (s : State) : (s.modNodeSched n f).nodeScheds = upd s.nodeScheds n f := rfl
@[simp] theorem State.modNodeSched_held (n : NodeId) (f : NodeSchedule → NodeSchedule) (s : State) : (s.modNodeSched n f).held = s.held := rfl
@[simp] theorem State.modNodeSched_scheds (n : NodeId) (f : NodeSchedule → NodeSchedule) (s : State) : (s.modNodeSched n f).scheds = s.scheds := rfl
@[simp] theorem State.modNodeSched_engines (n : NodeId) (f : NodeSchedule → NodeSchedule) (s : State) : (s.modNodeSched n f).engines = s.engines := rfl
@[simp] theorem State.modNodeSched_trunks (n : NodeId) (f : NodeSchedule → NodeSchedule) (s : State) : (s.modNodeSched n f).trunks = s.trunks := rfl
@[simp] theorem State.modNodeSched_supplies (n : NodeId) (f : NodeSchedule → NodeSchedule) (s : State) : (s.modNodeSched n f).supplies = s.supplies := rfl
@[simp] theorem State.modNodeSched_completions (n : NodeId) (f : NodeSchedule → NodeSchedule) (s : State) : (s.modNodeSched n f).completions = s.completions := rfl
@[simp] theorem State.modNodeSched_attention (n : NodeId) (f : NodeSchedule → NodeSchedule) (s : State) : (s.modNodeSched n f).attention = s.attention := rfl
@[simp] theorem State.modNodeSched_notices (n : NodeId) (f : NodeSchedule → NodeSchedule) (s : State) : (s.modNodeSched n f).notices = s.notices := rfl
@[simp] theorem State.modNodeSched_interval (n : NodeId) (f : NodeSchedule → NodeSchedule) (s : State) : (s.modNodeSched n f).interval = s.interval := rfl
@[simp] theorem State.modNodeSched_meters (n : NodeId) (f : NodeSchedule → NodeSchedule) (s : State) : (s.modNodeSched n f).meters = s.meters := rfl
@[simp] theorem State.modNodeSched_claims (n : NodeId) (f : NodeSchedule → NodeSchedule) (s : State) : (s.modNodeSched n f).claims = s.claims := rfl

@[simp] theorem State.setHeld_pending (n : NodeId) (h : Option HeldExchange) (s : State) : (s.setHeld n h).pending = s.pending := rfl
@[simp] theorem State.setHeld_startUp (n : NodeId) (h : Option HeldExchange) (s : State) : (s.setHeld n h).startUp = s.startUp := rfl
@[simp] theorem State.setHeld_hostLine (n : NodeId) (h : Option HeldExchange) (s : State) : (s.setHeld n h).hostLine = s.hostLine := rfl
@[simp] theorem State.setHeld_table (n : NodeId) (h : Option HeldExchange) (s : State) : (s.setHeld n h).table = s.table := rfl
@[simp] theorem State.setHeld_pool (n : NodeId) (h : Option HeldExchange) (s : State) : (s.setHeld n h).pool = s.pool := rfl
@[simp] theorem State.setHeld_nodes (n : NodeId) (h : Option HeldExchange) (s : State) : (s.setHeld n h).nodes = s.nodes := rfl
@[simp] theorem State.setHeld_nodeScheds (n : NodeId) (h : Option HeldExchange) (s : State) : (s.setHeld n h).nodeScheds = s.nodeScheds := rfl
@[simp] theorem State.setHeld_held (n : NodeId) (h : Option HeldExchange) (s : State) : (s.setHeld n h).held = upd s.held n fun _ => h := rfl
@[simp] theorem State.setHeld_scheds (n : NodeId) (h : Option HeldExchange) (s : State) : (s.setHeld n h).scheds = s.scheds := rfl
@[simp] theorem State.setHeld_engines (n : NodeId) (h : Option HeldExchange) (s : State) : (s.setHeld n h).engines = s.engines := rfl
@[simp] theorem State.setHeld_trunks (n : NodeId) (h : Option HeldExchange) (s : State) : (s.setHeld n h).trunks = s.trunks := rfl
@[simp] theorem State.setHeld_supplies (n : NodeId) (h : Option HeldExchange) (s : State) : (s.setHeld n h).supplies = s.supplies := rfl
@[simp] theorem State.setHeld_completions (n : NodeId) (h : Option HeldExchange) (s : State) : (s.setHeld n h).completions = s.completions := rfl
@[simp] theorem State.setHeld_attention (n : NodeId) (h : Option HeldExchange) (s : State) : (s.setHeld n h).attention = s.attention := rfl
@[simp] theorem State.setHeld_notices (n : NodeId) (h : Option HeldExchange) (s : State) : (s.setHeld n h).notices = s.notices := rfl
@[simp] theorem State.setHeld_interval (n : NodeId) (h : Option HeldExchange) (s : State) : (s.setHeld n h).interval = s.interval := rfl
@[simp] theorem State.setHeld_meters (n : NodeId) (h : Option HeldExchange) (s : State) : (s.setHeld n h).meters = s.meters := rfl
@[simp] theorem State.setHeld_claims (n : NodeId) (h : Option HeldExchange) (s : State) : (s.setHeld n h).claims = s.claims := rfl

@[simp] theorem State.modSched_pending (t : TrunkId) (f : Scheduler → Scheduler) (s : State) : (s.modSched t f).pending = s.pending := rfl
@[simp] theorem State.modSched_startUp (t : TrunkId) (f : Scheduler → Scheduler) (s : State) : (s.modSched t f).startUp = s.startUp := rfl
@[simp] theorem State.modSched_hostLine (t : TrunkId) (f : Scheduler → Scheduler) (s : State) : (s.modSched t f).hostLine = s.hostLine := rfl
@[simp] theorem State.modSched_table (t : TrunkId) (f : Scheduler → Scheduler) (s : State) : (s.modSched t f).table = s.table := rfl
@[simp] theorem State.modSched_pool (t : TrunkId) (f : Scheduler → Scheduler) (s : State) : (s.modSched t f).pool = s.pool := rfl
@[simp] theorem State.modSched_nodes (t : TrunkId) (f : Scheduler → Scheduler) (s : State) : (s.modSched t f).nodes = s.nodes := rfl
@[simp] theorem State.modSched_nodeScheds (t : TrunkId) (f : Scheduler → Scheduler) (s : State) : (s.modSched t f).nodeScheds = s.nodeScheds := rfl
@[simp] theorem State.modSched_held (t : TrunkId) (f : Scheduler → Scheduler) (s : State) : (s.modSched t f).held = s.held := rfl
@[simp] theorem State.modSched_scheds (t : TrunkId) (f : Scheduler → Scheduler) (s : State) : (s.modSched t f).scheds = upd s.scheds t f := rfl
@[simp] theorem State.modSched_engines (t : TrunkId) (f : Scheduler → Scheduler) (s : State) : (s.modSched t f).engines = s.engines := rfl
@[simp] theorem State.modSched_trunks (t : TrunkId) (f : Scheduler → Scheduler) (s : State) : (s.modSched t f).trunks = s.trunks := rfl
@[simp] theorem State.modSched_supplies (t : TrunkId) (f : Scheduler → Scheduler) (s : State) : (s.modSched t f).supplies = s.supplies := rfl
@[simp] theorem State.modSched_completions (t : TrunkId) (f : Scheduler → Scheduler) (s : State) : (s.modSched t f).completions = s.completions := rfl
@[simp] theorem State.modSched_attention (t : TrunkId) (f : Scheduler → Scheduler) (s : State) : (s.modSched t f).attention = s.attention := rfl
@[simp] theorem State.modSched_notices (t : TrunkId) (f : Scheduler → Scheduler) (s : State) : (s.modSched t f).notices = s.notices := rfl
@[simp] theorem State.modSched_interval (t : TrunkId) (f : Scheduler → Scheduler) (s : State) : (s.modSched t f).interval = s.interval := rfl
@[simp] theorem State.modSched_meters (t : TrunkId) (f : Scheduler → Scheduler) (s : State) : (s.modSched t f).meters = s.meters := rfl
@[simp] theorem State.modSched_claims (t : TrunkId) (f : Scheduler → Scheduler) (s : State) : (s.modSched t f).claims = s.claims := rfl

@[simp] theorem State.modEngine_pending (t : TrunkId) (f : Engine → Engine) (s : State) : (s.modEngine t f).pending = s.pending := rfl
@[simp] theorem State.modEngine_startUp (t : TrunkId) (f : Engine → Engine) (s : State) : (s.modEngine t f).startUp = s.startUp := rfl
@[simp] theorem State.modEngine_hostLine (t : TrunkId) (f : Engine → Engine) (s : State) : (s.modEngine t f).hostLine = s.hostLine := rfl
@[simp] theorem State.modEngine_table (t : TrunkId) (f : Engine → Engine) (s : State) : (s.modEngine t f).table = s.table := rfl
@[simp] theorem State.modEngine_pool (t : TrunkId) (f : Engine → Engine) (s : State) : (s.modEngine t f).pool = s.pool := rfl
@[simp] theorem State.modEngine_nodes (t : TrunkId) (f : Engine → Engine) (s : State) : (s.modEngine t f).nodes = s.nodes := rfl
@[simp] theorem State.modEngine_nodeScheds (t : TrunkId) (f : Engine → Engine) (s : State) : (s.modEngine t f).nodeScheds = s.nodeScheds := rfl
@[simp] theorem State.modEngine_held (t : TrunkId) (f : Engine → Engine) (s : State) : (s.modEngine t f).held = s.held := rfl
@[simp] theorem State.modEngine_scheds (t : TrunkId) (f : Engine → Engine) (s : State) : (s.modEngine t f).scheds = s.scheds := rfl
@[simp] theorem State.modEngine_engines (t : TrunkId) (f : Engine → Engine) (s : State) : (s.modEngine t f).engines = upd s.engines t f := rfl
@[simp] theorem State.modEngine_trunks (t : TrunkId) (f : Engine → Engine) (s : State) : (s.modEngine t f).trunks = s.trunks := rfl
@[simp] theorem State.modEngine_supplies (t : TrunkId) (f : Engine → Engine) (s : State) : (s.modEngine t f).supplies = s.supplies := rfl
@[simp] theorem State.modEngine_completions (t : TrunkId) (f : Engine → Engine) (s : State) : (s.modEngine t f).completions = s.completions := rfl
@[simp] theorem State.modEngine_attention (t : TrunkId) (f : Engine → Engine) (s : State) : (s.modEngine t f).attention = s.attention := rfl
@[simp] theorem State.modEngine_notices (t : TrunkId) (f : Engine → Engine) (s : State) : (s.modEngine t f).notices = s.notices := rfl
@[simp] theorem State.modEngine_interval (t : TrunkId) (f : Engine → Engine) (s : State) : (s.modEngine t f).interval = s.interval := rfl
@[simp] theorem State.modEngine_meters (t : TrunkId) (f : Engine → Engine) (s : State) : (s.modEngine t f).meters = s.meters := rfl
@[simp] theorem State.modEngine_claims (t : TrunkId) (f : Engine → Engine) (s : State) : (s.modEngine t f).claims = s.claims := rfl

@[simp] theorem State.modTrunk_pending (t : TrunkId) (f : TrunkControl → TrunkControl) (s : State) : (s.modTrunk t f).pending = s.pending := rfl
@[simp] theorem State.modTrunk_startUp (t : TrunkId) (f : TrunkControl → TrunkControl) (s : State) : (s.modTrunk t f).startUp = s.startUp := rfl
@[simp] theorem State.modTrunk_hostLine (t : TrunkId) (f : TrunkControl → TrunkControl) (s : State) : (s.modTrunk t f).hostLine = s.hostLine := rfl
@[simp] theorem State.modTrunk_table (t : TrunkId) (f : TrunkControl → TrunkControl) (s : State) : (s.modTrunk t f).table = s.table := rfl
@[simp] theorem State.modTrunk_pool (t : TrunkId) (f : TrunkControl → TrunkControl) (s : State) : (s.modTrunk t f).pool = s.pool := rfl
@[simp] theorem State.modTrunk_nodes (t : TrunkId) (f : TrunkControl → TrunkControl) (s : State) : (s.modTrunk t f).nodes = s.nodes := rfl
@[simp] theorem State.modTrunk_nodeScheds (t : TrunkId) (f : TrunkControl → TrunkControl) (s : State) : (s.modTrunk t f).nodeScheds = s.nodeScheds := rfl
@[simp] theorem State.modTrunk_held (t : TrunkId) (f : TrunkControl → TrunkControl) (s : State) : (s.modTrunk t f).held = s.held := rfl
@[simp] theorem State.modTrunk_scheds (t : TrunkId) (f : TrunkControl → TrunkControl) (s : State) : (s.modTrunk t f).scheds = s.scheds := rfl
@[simp] theorem State.modTrunk_engines (t : TrunkId) (f : TrunkControl → TrunkControl) (s : State) : (s.modTrunk t f).engines = s.engines := rfl
@[simp] theorem State.modTrunk_trunks (t : TrunkId) (f : TrunkControl → TrunkControl) (s : State) : (s.modTrunk t f).trunks = upd s.trunks t f := rfl
@[simp] theorem State.modTrunk_supplies (t : TrunkId) (f : TrunkControl → TrunkControl) (s : State) : (s.modTrunk t f).supplies = s.supplies := rfl
@[simp] theorem State.modTrunk_completions (t : TrunkId) (f : TrunkControl → TrunkControl) (s : State) : (s.modTrunk t f).completions = s.completions := rfl
@[simp] theorem State.modTrunk_attention (t : TrunkId) (f : TrunkControl → TrunkControl) (s : State) : (s.modTrunk t f).attention = s.attention := rfl
@[simp] theorem State.modTrunk_notices (t : TrunkId) (f : TrunkControl → TrunkControl) (s : State) : (s.modTrunk t f).notices = s.notices := rfl
@[simp] theorem State.modTrunk_interval (t : TrunkId) (f : TrunkControl → TrunkControl) (s : State) : (s.modTrunk t f).interval = s.interval := rfl
@[simp] theorem State.modTrunk_meters (t : TrunkId) (f : TrunkControl → TrunkControl) (s : State) : (s.modTrunk t f).meters = s.meters := rfl
@[simp] theorem State.modTrunk_claims (t : TrunkId) (f : TrunkControl → TrunkControl) (s : State) : (s.modTrunk t f).claims = s.claims := rfl

@[simp] theorem State.modSupply_pending (t : TrunkId) (f : SupplyMonitor → SupplyMonitor) (s : State) : (s.modSupply t f).pending = s.pending := rfl
@[simp] theorem State.modSupply_startUp (t : TrunkId) (f : SupplyMonitor → SupplyMonitor) (s : State) : (s.modSupply t f).startUp = s.startUp := rfl
@[simp] theorem State.modSupply_hostLine (t : TrunkId) (f : SupplyMonitor → SupplyMonitor) (s : State) : (s.modSupply t f).hostLine = s.hostLine := rfl
@[simp] theorem State.modSupply_table (t : TrunkId) (f : SupplyMonitor → SupplyMonitor) (s : State) : (s.modSupply t f).table = s.table := rfl
@[simp] theorem State.modSupply_pool (t : TrunkId) (f : SupplyMonitor → SupplyMonitor) (s : State) : (s.modSupply t f).pool = s.pool := rfl
@[simp] theorem State.modSupply_nodes (t : TrunkId) (f : SupplyMonitor → SupplyMonitor) (s : State) : (s.modSupply t f).nodes = s.nodes := rfl
@[simp] theorem State.modSupply_nodeScheds (t : TrunkId) (f : SupplyMonitor → SupplyMonitor) (s : State) : (s.modSupply t f).nodeScheds = s.nodeScheds := rfl
@[simp] theorem State.modSupply_held (t : TrunkId) (f : SupplyMonitor → SupplyMonitor) (s : State) : (s.modSupply t f).held = s.held := rfl
@[simp] theorem State.modSupply_scheds (t : TrunkId) (f : SupplyMonitor → SupplyMonitor) (s : State) : (s.modSupply t f).scheds = s.scheds := rfl
@[simp] theorem State.modSupply_engines (t : TrunkId) (f : SupplyMonitor → SupplyMonitor) (s : State) : (s.modSupply t f).engines = s.engines := rfl
@[simp] theorem State.modSupply_trunks (t : TrunkId) (f : SupplyMonitor → SupplyMonitor) (s : State) : (s.modSupply t f).trunks = s.trunks := rfl
@[simp] theorem State.modSupply_supplies (t : TrunkId) (f : SupplyMonitor → SupplyMonitor) (s : State) : (s.modSupply t f).supplies = upd s.supplies t f := rfl
@[simp] theorem State.modSupply_completions (t : TrunkId) (f : SupplyMonitor → SupplyMonitor) (s : State) : (s.modSupply t f).completions = s.completions := rfl
@[simp] theorem State.modSupply_attention (t : TrunkId) (f : SupplyMonitor → SupplyMonitor) (s : State) : (s.modSupply t f).attention = s.attention := rfl
@[simp] theorem State.modSupply_notices (t : TrunkId) (f : SupplyMonitor → SupplyMonitor) (s : State) : (s.modSupply t f).notices = s.notices := rfl
@[simp] theorem State.modSupply_interval (t : TrunkId) (f : SupplyMonitor → SupplyMonitor) (s : State) : (s.modSupply t f).interval = s.interval := rfl
@[simp] theorem State.modSupply_meters (t : TrunkId) (f : SupplyMonitor → SupplyMonitor) (s : State) : (s.modSupply t f).meters = s.meters := rfl
@[simp] theorem State.modSupply_claims (t : TrunkId) (f : SupplyMonitor → SupplyMonitor) (s : State) : (s.modSupply t f).claims = s.claims := rfl

@[simp] theorem State.modCompletions_pending (f : CompletionQueue → CompletionQueue) (s : State) : (s.modCompletions f).pending = s.pending := rfl
@[simp] theorem State.modCompletions_startUp (f : CompletionQueue → CompletionQueue) (s : State) : (s.modCompletions f).startUp = s.startUp := rfl
@[simp] theorem State.modCompletions_hostLine (f : CompletionQueue → CompletionQueue) (s : State) : (s.modCompletions f).hostLine = s.hostLine := rfl
@[simp] theorem State.modCompletions_table (f : CompletionQueue → CompletionQueue) (s : State) : (s.modCompletions f).table = s.table := rfl
@[simp] theorem State.modCompletions_pool (f : CompletionQueue → CompletionQueue) (s : State) : (s.modCompletions f).pool = s.pool := rfl
@[simp] theorem State.modCompletions_nodes (f : CompletionQueue → CompletionQueue) (s : State) : (s.modCompletions f).nodes = s.nodes := rfl
@[simp] theorem State.modCompletions_nodeScheds (f : CompletionQueue → CompletionQueue) (s : State) : (s.modCompletions f).nodeScheds = s.nodeScheds := rfl
@[simp] theorem State.modCompletions_held (f : CompletionQueue → CompletionQueue) (s : State) : (s.modCompletions f).held = s.held := rfl
@[simp] theorem State.modCompletions_scheds (f : CompletionQueue → CompletionQueue) (s : State) : (s.modCompletions f).scheds = s.scheds := rfl
@[simp] theorem State.modCompletions_engines (f : CompletionQueue → CompletionQueue) (s : State) : (s.modCompletions f).engines = s.engines := rfl
@[simp] theorem State.modCompletions_trunks (f : CompletionQueue → CompletionQueue) (s : State) : (s.modCompletions f).trunks = s.trunks := rfl
@[simp] theorem State.modCompletions_supplies (f : CompletionQueue → CompletionQueue) (s : State) : (s.modCompletions f).supplies = s.supplies := rfl
@[simp] theorem State.modCompletions_completions (f : CompletionQueue → CompletionQueue) (s : State) : (s.modCompletions f).completions = f s.completions := rfl
@[simp] theorem State.modCompletions_attention (f : CompletionQueue → CompletionQueue) (s : State) : (s.modCompletions f).attention = s.attention := rfl
@[simp] theorem State.modCompletions_notices (f : CompletionQueue → CompletionQueue) (s : State) : (s.modCompletions f).notices = s.notices := rfl
@[simp] theorem State.modCompletions_interval (f : CompletionQueue → CompletionQueue) (s : State) : (s.modCompletions f).interval = s.interval := rfl
@[simp] theorem State.modCompletions_meters (f : CompletionQueue → CompletionQueue) (s : State) : (s.modCompletions f).meters = s.meters := rfl
@[simp] theorem State.modCompletions_claims (f : CompletionQueue → CompletionQueue) (s : State) : (s.modCompletions f).claims = s.claims := rfl

@[simp] theorem State.modMeter_pending (t : TrunkId) (f : Meter → Meter) (s : State) : (s.modMeter t f).pending = s.pending := rfl
@[simp] theorem State.modMeter_startUp (t : TrunkId) (f : Meter → Meter) (s : State) : (s.modMeter t f).startUp = s.startUp := rfl
@[simp] theorem State.modMeter_hostLine (t : TrunkId) (f : Meter → Meter) (s : State) : (s.modMeter t f).hostLine = s.hostLine := rfl
@[simp] theorem State.modMeter_table (t : TrunkId) (f : Meter → Meter) (s : State) : (s.modMeter t f).table = s.table := rfl
@[simp] theorem State.modMeter_pool (t : TrunkId) (f : Meter → Meter) (s : State) : (s.modMeter t f).pool = s.pool := rfl
@[simp] theorem State.modMeter_nodes (t : TrunkId) (f : Meter → Meter) (s : State) : (s.modMeter t f).nodes = s.nodes := rfl
@[simp] theorem State.modMeter_nodeScheds (t : TrunkId) (f : Meter → Meter) (s : State) : (s.modMeter t f).nodeScheds = s.nodeScheds := rfl
@[simp] theorem State.modMeter_held (t : TrunkId) (f : Meter → Meter) (s : State) : (s.modMeter t f).held = s.held := rfl
@[simp] theorem State.modMeter_scheds (t : TrunkId) (f : Meter → Meter) (s : State) : (s.modMeter t f).scheds = s.scheds := rfl
@[simp] theorem State.modMeter_engines (t : TrunkId) (f : Meter → Meter) (s : State) : (s.modMeter t f).engines = s.engines := rfl
@[simp] theorem State.modMeter_trunks (t : TrunkId) (f : Meter → Meter) (s : State) : (s.modMeter t f).trunks = s.trunks := rfl
@[simp] theorem State.modMeter_supplies (t : TrunkId) (f : Meter → Meter) (s : State) : (s.modMeter t f).supplies = s.supplies := rfl
@[simp] theorem State.modMeter_completions (t : TrunkId) (f : Meter → Meter) (s : State) : (s.modMeter t f).completions = s.completions := rfl
@[simp] theorem State.modMeter_attention (t : TrunkId) (f : Meter → Meter) (s : State) : (s.modMeter t f).attention = s.attention := rfl
@[simp] theorem State.modMeter_notices (t : TrunkId) (f : Meter → Meter) (s : State) : (s.modMeter t f).notices = s.notices := rfl
@[simp] theorem State.modMeter_interval (t : TrunkId) (f : Meter → Meter) (s : State) : (s.modMeter t f).interval = s.interval := rfl
@[simp] theorem State.modMeter_meters (t : TrunkId) (f : Meter → Meter) (s : State) : (s.modMeter t f).meters = upd s.meters t f := rfl
@[simp] theorem State.modMeter_claims (t : TrunkId) (f : Meter → Meter) (s : State) : (s.modMeter t f).claims = s.claims := rfl

@[simp] theorem State.modInterval_pending (f : IntervalUnit → IntervalUnit) (s : State) : (s.modInterval f).pending = s.pending := rfl
@[simp] theorem State.modInterval_startUp (f : IntervalUnit → IntervalUnit) (s : State) : (s.modInterval f).startUp = s.startUp := rfl
@[simp] theorem State.modInterval_hostLine (f : IntervalUnit → IntervalUnit) (s : State) : (s.modInterval f).hostLine = s.hostLine := rfl
@[simp] theorem State.modInterval_table (f : IntervalUnit → IntervalUnit) (s : State) : (s.modInterval f).table = s.table := rfl
@[simp] theorem State.modInterval_pool (f : IntervalUnit → IntervalUnit) (s : State) : (s.modInterval f).pool = s.pool := rfl
@[simp] theorem State.modInterval_nodes (f : IntervalUnit → IntervalUnit) (s : State) : (s.modInterval f).nodes = s.nodes := rfl
@[simp] theorem State.modInterval_nodeScheds (f : IntervalUnit → IntervalUnit) (s : State) : (s.modInterval f).nodeScheds = s.nodeScheds := rfl
@[simp] theorem State.modInterval_held (f : IntervalUnit → IntervalUnit) (s : State) : (s.modInterval f).held = s.held := rfl
@[simp] theorem State.modInterval_scheds (f : IntervalUnit → IntervalUnit) (s : State) : (s.modInterval f).scheds = s.scheds := rfl
@[simp] theorem State.modInterval_engines (f : IntervalUnit → IntervalUnit) (s : State) : (s.modInterval f).engines = s.engines := rfl
@[simp] theorem State.modInterval_trunks (f : IntervalUnit → IntervalUnit) (s : State) : (s.modInterval f).trunks = s.trunks := rfl
@[simp] theorem State.modInterval_supplies (f : IntervalUnit → IntervalUnit) (s : State) : (s.modInterval f).supplies = s.supplies := rfl
@[simp] theorem State.modInterval_completions (f : IntervalUnit → IntervalUnit) (s : State) : (s.modInterval f).completions = s.completions := rfl
@[simp] theorem State.modInterval_attention (f : IntervalUnit → IntervalUnit) (s : State) : (s.modInterval f).attention = s.attention := rfl
@[simp] theorem State.modInterval_notices (f : IntervalUnit → IntervalUnit) (s : State) : (s.modInterval f).notices = s.notices := rfl
@[simp] theorem State.modInterval_interval (f : IntervalUnit → IntervalUnit) (s : State) : (s.modInterval f).interval = f s.interval := rfl
@[simp] theorem State.modInterval_meters (f : IntervalUnit → IntervalUnit) (s : State) : (s.modInterval f).meters = s.meters := rfl
@[simp] theorem State.modInterval_claims (f : IntervalUnit → IntervalUnit) (s : State) : (s.modInterval f).claims = s.claims := rfl

@[simp] theorem State.withNotices_pending (f : NoticeUnit → NoticeUnit) (s : State) : (s.withNotices f).pending = s.pending := rfl
@[simp] theorem State.withNotices_startUp (f : NoticeUnit → NoticeUnit) (s : State) : (s.withNotices f).startUp = s.startUp := rfl
@[simp] theorem State.withNotices_hostLine (f : NoticeUnit → NoticeUnit) (s : State) : (s.withNotices f).hostLine = s.hostLine := rfl
@[simp] theorem State.withNotices_table (f : NoticeUnit → NoticeUnit) (s : State) : (s.withNotices f).table = s.table := rfl
@[simp] theorem State.withNotices_pool (f : NoticeUnit → NoticeUnit) (s : State) : (s.withNotices f).pool = s.pool := rfl
@[simp] theorem State.withNotices_nodes (f : NoticeUnit → NoticeUnit) (s : State) : (s.withNotices f).nodes = s.nodes := rfl
@[simp] theorem State.withNotices_nodeScheds (f : NoticeUnit → NoticeUnit) (s : State) : (s.withNotices f).nodeScheds = s.nodeScheds := rfl
@[simp] theorem State.withNotices_held (f : NoticeUnit → NoticeUnit) (s : State) : (s.withNotices f).held = s.held := rfl
@[simp] theorem State.withNotices_scheds (f : NoticeUnit → NoticeUnit) (s : State) : (s.withNotices f).scheds = s.scheds := rfl
@[simp] theorem State.withNotices_engines (f : NoticeUnit → NoticeUnit) (s : State) : (s.withNotices f).engines = s.engines := rfl
@[simp] theorem State.withNotices_trunks (f : NoticeUnit → NoticeUnit) (s : State) : (s.withNotices f).trunks = s.trunks := rfl
@[simp] theorem State.withNotices_supplies (f : NoticeUnit → NoticeUnit) (s : State) : (s.withNotices f).supplies = s.supplies := rfl
@[simp] theorem State.withNotices_completions (f : NoticeUnit → NoticeUnit) (s : State) : (s.withNotices f).completions = s.completions := rfl
@[simp] theorem State.withNotices_attention (f : NoticeUnit → NoticeUnit) (s : State) : (s.withNotices f).attention = s.attention := rfl
@[simp] theorem State.withNotices_interval (f : NoticeUnit → NoticeUnit) (s : State) : (s.withNotices f).interval = s.interval := rfl
@[simp] theorem State.withNotices_meters (f : NoticeUnit → NoticeUnit) (s : State) : (s.withNotices f).meters = s.meters := rfl
@[simp] theorem State.withNotices_claims (f : NoticeUnit → NoticeUnit) (s : State) : (s.withNotices f).claims = s.claims := rfl

@[simp] theorem State.latch_pending (f : NoticeFlag) (s : State) : (s.latch f).pending = s.pending := rfl
@[simp] theorem State.latch_startUp (f : NoticeFlag) (s : State) : (s.latch f).startUp = s.startUp := rfl
@[simp] theorem State.latch_hostLine (f : NoticeFlag) (s : State) : (s.latch f).hostLine = s.hostLine := rfl
@[simp] theorem State.latch_table (f : NoticeFlag) (s : State) : (s.latch f).table = s.table := rfl
@[simp] theorem State.latch_pool (f : NoticeFlag) (s : State) : (s.latch f).pool = s.pool := rfl
@[simp] theorem State.latch_nodes (f : NoticeFlag) (s : State) : (s.latch f).nodes = s.nodes := rfl
@[simp] theorem State.latch_nodeScheds (f : NoticeFlag) (s : State) : (s.latch f).nodeScheds = s.nodeScheds := rfl
@[simp] theorem State.latch_held (f : NoticeFlag) (s : State) : (s.latch f).held = s.held := rfl
@[simp] theorem State.latch_scheds (f : NoticeFlag) (s : State) : (s.latch f).scheds = s.scheds := rfl
@[simp] theorem State.latch_engines (f : NoticeFlag) (s : State) : (s.latch f).engines = s.engines := rfl
@[simp] theorem State.latch_trunks (f : NoticeFlag) (s : State) : (s.latch f).trunks = s.trunks := rfl
@[simp] theorem State.latch_supplies (f : NoticeFlag) (s : State) : (s.latch f).supplies = s.supplies := rfl
@[simp] theorem State.latch_completions (f : NoticeFlag) (s : State) : (s.latch f).completions = s.completions := rfl
@[simp] theorem State.latch_attention (f : NoticeFlag) (s : State) : (s.latch f).attention = s.attention := rfl
@[simp] theorem State.latch_interval (f : NoticeFlag) (s : State) : (s.latch f).interval = s.interval := rfl
@[simp] theorem State.latch_meters (f : NoticeFlag) (s : State) : (s.latch f).meters = s.meters := rfl
@[simp] theorem State.latch_claims (f : NoticeFlag) (s : State) : (s.latch f).claims = s.claims := rfl

@[simp] theorem State.takeCompletionsLevel_pending (s : State) : s.takeCompletionsLevel.pending = s.pending := rfl
@[simp] theorem State.takeCompletionsLevel_startUp (s : State) : s.takeCompletionsLevel.startUp = s.startUp := rfl
@[simp] theorem State.takeCompletionsLevel_hostLine (s : State) : s.takeCompletionsLevel.hostLine = s.hostLine := rfl
@[simp] theorem State.takeCompletionsLevel_table (s : State) : s.takeCompletionsLevel.table = s.table := rfl
@[simp] theorem State.takeCompletionsLevel_pool (s : State) : s.takeCompletionsLevel.pool = s.pool := rfl
@[simp] theorem State.takeCompletionsLevel_nodes (s : State) : s.takeCompletionsLevel.nodes = s.nodes := rfl
@[simp] theorem State.takeCompletionsLevel_nodeScheds (s : State) : s.takeCompletionsLevel.nodeScheds = s.nodeScheds := rfl
@[simp] theorem State.takeCompletionsLevel_held (s : State) : s.takeCompletionsLevel.held = s.held := rfl
@[simp] theorem State.takeCompletionsLevel_scheds (s : State) : s.takeCompletionsLevel.scheds = s.scheds := rfl
@[simp] theorem State.takeCompletionsLevel_engines (s : State) : s.takeCompletionsLevel.engines = s.engines := rfl
@[simp] theorem State.takeCompletionsLevel_trunks (s : State) : s.takeCompletionsLevel.trunks = s.trunks := rfl
@[simp] theorem State.takeCompletionsLevel_supplies (s : State) : s.takeCompletionsLevel.supplies = s.supplies := rfl
@[simp] theorem State.takeCompletionsLevel_completions (s : State) : s.takeCompletionsLevel.completions = s.completions := rfl
@[simp] theorem State.takeCompletionsLevel_attention (s : State) : s.takeCompletionsLevel.attention = s.attention := rfl
@[simp] theorem State.takeCompletionsLevel_interval (s : State) : s.takeCompletionsLevel.interval = s.interval := rfl
@[simp] theorem State.takeCompletionsLevel_meters (s : State) : s.takeCompletionsLevel.meters = s.meters := rfl
@[simp] theorem State.takeCompletionsLevel_claims (s : State) : s.takeCompletionsLevel.claims = s.claims := rfl

@[simp] theorem State.takeAttentionLevel_pending (s : State) : s.takeAttentionLevel.pending = s.pending := rfl
@[simp] theorem State.takeAttentionLevel_startUp (s : State) : s.takeAttentionLevel.startUp = s.startUp := rfl
@[simp] theorem State.takeAttentionLevel_hostLine (s : State) : s.takeAttentionLevel.hostLine = s.hostLine := rfl
@[simp] theorem State.takeAttentionLevel_table (s : State) : s.takeAttentionLevel.table = s.table := rfl
@[simp] theorem State.takeAttentionLevel_pool (s : State) : s.takeAttentionLevel.pool = s.pool := rfl
@[simp] theorem State.takeAttentionLevel_nodes (s : State) : s.takeAttentionLevel.nodes = s.nodes := rfl
@[simp] theorem State.takeAttentionLevel_nodeScheds (s : State) : s.takeAttentionLevel.nodeScheds = s.nodeScheds := rfl
@[simp] theorem State.takeAttentionLevel_held (s : State) : s.takeAttentionLevel.held = s.held := rfl
@[simp] theorem State.takeAttentionLevel_scheds (s : State) : s.takeAttentionLevel.scheds = s.scheds := rfl
@[simp] theorem State.takeAttentionLevel_engines (s : State) : s.takeAttentionLevel.engines = s.engines := rfl
@[simp] theorem State.takeAttentionLevel_trunks (s : State) : s.takeAttentionLevel.trunks = s.trunks := rfl
@[simp] theorem State.takeAttentionLevel_supplies (s : State) : s.takeAttentionLevel.supplies = s.supplies := rfl
@[simp] theorem State.takeAttentionLevel_completions (s : State) : s.takeAttentionLevel.completions = s.completions := rfl
@[simp] theorem State.takeAttentionLevel_attention (s : State) : s.takeAttentionLevel.attention = s.attention := rfl
@[simp] theorem State.takeAttentionLevel_interval (s : State) : s.takeAttentionLevel.interval = s.interval := rfl
@[simp] theorem State.takeAttentionLevel_meters (s : State) : s.takeAttentionLevel.meters = s.meters := rfl
@[simp] theorem State.takeAttentionLevel_claims (s : State) : s.takeAttentionLevel.claims = s.claims := rfl

end Sys2Proof.Machine
end

