-- ==== Sys2Proof/Laws/Frames.lean ====
section
/-! SUPPORT. What the shared operations leave as it was: one lemma for each operation, in three relations by how far it reaches. -/

namespace Sys2Proof.Machine

open Sys2Proof

/-! ## The end of orders: the table, the pool, held exchanges, the queue, the notice flags and the counters may change -/

/-- What ending and posting orders leaves as it was. -/
structure OrderFrame (s t : State) : Prop where
  pending : t.pending = s.pending
  startUp : t.startUp = s.startUp
  hostLine : t.hostLine = s.hostLine
  nodes : t.nodes = s.nodes
  nodeScheds : t.nodeScheds = s.nodeScheds
  scheds : t.scheds = s.scheds
  engines : t.engines = s.engines
  trunks : t.trunks = s.trunks
  supplies : t.supplies = s.supplies
  attention : t.attention = s.attention
  interval : t.interval = s.interval
  claims : t.claims = s.claims
  mask : t.notices.mask = s.notices.mask
  faultSeen : t.notices.faultSeen = s.notices.faultSeen
  watermark : t.completions.watermark = s.completions.watermark
  ageLimit : t.completions.ageLimit = s.completions.ageLimit

namespace OrderFrame

theorem refl (s : State) : OrderFrame s s := by constructor <;> rfl

theorem trans {a b c : State} (h : OrderFrame a b) (k : OrderFrame b c) : OrderFrame a c where
  pending := k.pending.trans h.pending
  startUp := k.startUp.trans h.startUp
  hostLine := k.hostLine.trans h.hostLine
  nodes := k.nodes.trans h.nodes
  nodeScheds := k.nodeScheds.trans h.nodeScheds
  scheds := k.scheds.trans h.scheds
  engines := k.engines.trans h.engines
  trunks := k.trunks.trans h.trunks
  supplies := k.supplies.trans h.supplies
  attention := k.attention.trans h.attention
  interval := k.interval.trans h.interval
  claims := k.claims.trans h.claims
  mask := k.mask.trans h.mask
  faultSeen := k.faultSeen.trans h.faultSeen
  watermark := k.watermark.trans h.watermark
  ageLimit := k.ageLimit.trans h.ageLimit

theorem modTable (f : OrderTable → OrderTable) (s : State) : OrderFrame s (s.modTable f) := by constructor <;> rfl
theorem modPool (f : SegmentPool → SegmentPool) (s : State) : OrderFrame s (s.modPool f) := by constructor <;> rfl
theorem modMeter (t : TrunkId) (f : Meter → Meter) (s : State) : OrderFrame s (s.modMeter t f) := by constructor <;> rfl
theorem setHeld (n : NodeId) (h : Option HeldExchange) (s : State) : OrderFrame s (s.setHeld n h) := by constructor <;> rfl
theorem latch (f : NoticeFlag) (s : State) : OrderFrame s (s.latch f) := by constructor <;> rfl
theorem takeCompletionsLevel (s : State) : OrderFrame s s.takeCompletionsLevel := by constructor <;> rfl

theorem count (t : TrunkId) (f : Counters → Counters) (s : State) : OrderFrame s (s.count t f) := by
  unfold State.count
  split
  · exact refl s
  · exact modMeter t _ s

theorem postHead (s : State) : OrderFrame s s.postHead := by
  unfold State.postHead
  split
  · exact refl s
  · split
    · dsimp only
      split <;> constructor <;> rfl
    · exact refl s

theorem post (n : Nat) (s : State) : OrderFrame s (State.post n s) := by
  induction n generalizing s with
  | zero => exact refl s
  | succ n ih => exact (postHead s).trans (ih _)

theorem dropHeld (o : Order) (s : State) : OrderFrame s (s.dropHeld o) := by
  unfold State.dropHeld
  split
  · split
    · exact setHeld o.node none s
    · exact refl s
  · exact refl s

theorem postEnded (s : State) : OrderFrame s s.postEnded := by
  unfold State.postEnded
  dsimp only
  split
  · exact post _ s
  · exact (post _ s).trans (latch _ _)

/-- Ending one order (R17) with the posting that follows it. -/
theorem endOrder (tag : Byte) (r : Result) (nak : Byte) (s : State) : OrderFrame s (s.endOrder tag r nak) := by
  unfold State.endOrder
  split
  · exact refl s
  · exact ((((dropHeld _ s).trans (modPool _ _)).trans (modTable _ _)).trans (count _ _ _)).trans (postEnded _)

/-- A claim that ends or marks one order (R21, R24 to R26). -/
theorem endOrMark (m : Mark) (tag : Byte) (s : State) : OrderFrame s (s.endOrMark m tag) := by
  unfold State.endOrMark
  split
  · exact refl s
  · split
    · exact endOrder _ _ _ s
    · exact endOrder _ _ _ s
    · split
      · exact modTable _ s
      · exact endOrder _ _ _ s
    · exact refl s
    · exact refl s

theorem endIsolated (tag : Byte) (s : State) : OrderFrame s (s.endIsolated tag) := by
  unfold State.endIsolated
  split
  · split
    · exact endOrder _ _ _ s
    · exact refl s
  · exact refl s

theorem forAll {α : Type} (f : α → State → State) (h : ∀ a s, OrderFrame s (f a s)) (l : List α) (s : State) :
    OrderFrame s (Machine.forAll f l s) := forAll_rel refl trans f h l s

theorem endByMarkOr (tag : Byte) (f : State → State) (h : ∀ s, OrderFrame s (f s)) (s : State) :
    OrderFrame s (s.endByMarkOr tag f) := by
  unfold State.endByMarkOr
  split
  · split
    · exact endOrder _ _ _ s
    · exact h s
  · exact refl s

theorem orderAck (o : Order) (payload : List Byte) (s : State) : OrderFrame s (s.orderAck o payload) := by
  unfold State.orderAck
  dsimp only
  split
  · exact (modTable _ s).trans (endOrder _ _ _ _)
  · exact (modTable _ s).trans (endOrder _ _ _ _)
  · split
    · exact refl s
    · split
      · exact ((modPool _ s).trans (modTable _ _)).trans (endOrder _ _ _ _)
      · exact ((modPool _ s).trans (modTable _ _)).trans (endByMarkOr _ _ (fun s => refl s) _)
  · have h : ∀ u : State, OrderFrame s u → OrderFrame s
        (if o.length ≤ o.progress + payload.length ∨ payload.length < o.asked
          then (u.modTable (OrderTable.update o.tag fun o' => { o' with progress := o.progress + payload.length })).endOrder
            o.tag .done 0
          else (u.modTable (OrderTable.update o.tag fun o' => { o' with progress := o.progress + payload.length })).endByMarkOr
            o.tag id) := by
      intro u hu
      split
      · exact (hu.trans (modTable _ _)).trans (endOrder _ _ _ _)
      · exact (hu.trans (modTable _ _)).trans (endByMarkOr _ _ (fun s => refl s) _)
    apply h
    split
    · split
      · exact (modPool _ s).trans (modPool _ _)
      · exact modPool _ s
    · exact modPool _ s
  · split
    · exact (modTable _ s).trans (endOrder _ _ _ _)
    · exact (modTable _ s).trans (endOrder _ _ _ _)
  · exact endOrder _ _ _ s

/-- The Order Manager's part of an exchange end (R12 to R16). -/
theorem orderOutcome (x : Exchange) (e : Ending) (s : State) : OrderFrame s (s.orderOutcome x e) := by
  unfold State.orderOutcome
  split
  · exact refl s
  · rename_i tag _
    dsimp only
    refine (modTable (OrderTable.update tag (Order.addRetries x.retriesSent)) s).trans ?_
    split
    · exact refl _
    · split
      · exact orderAck _ _ _
      · exact endByMarkOr _ _ (fun s => endOrder _ _ _ s) _
      · refine endByMarkOr _ _ (fun s => ?_) _
        split
        · exact endOrder _ _ _ s
        · exact setHeld _ _ s
      · exact endByMarkOr _ _ (fun s => endOrder _ _ _ s) _

end OrderFrame

/-! ## Grants and exchange starts: the schedulers, the engines, held exchanges and the state of the order served may change -/

/-- What a trunk-free event, a grant and an exchange start leave as they were. -/
structure GrantFrame (s t : State) : Prop where
  pending : t.pending = s.pending
  startUp : t.startUp = s.startUp
  hostLine : t.hostLine = s.hostLine
  queues : t.table.queues = s.table.queues
  backlog : t.table.backlog = s.table.backlog
  pool : t.pool = s.pool
  nodes : t.nodes = s.nodes
  nodeScheds : t.nodeScheds = s.nodeScheds
  supplies : t.supplies = s.supplies
  completions : t.completions = s.completions
  attention : t.attention = s.attention
  notices : t.notices = s.notices
  interval : t.interval = s.interval
  meters : t.meters = s.meters
  claims : t.claims = s.claims
  trunkState : ∀ k : TrunkId, t.trunks[k].state = s.trunks[k].state
  wait : ∀ k : TrunkId, t.trunks[k].wait = s.trunks[k].wait
  config : ∀ k : TrunkId, t.trunks[k].config = s.trunks[k].config
  mode : ∀ k : TrunkId, t.trunks[k].mode = s.trunks[k].mode
  idleCount : ∀ k : TrunkId, t.trunks[k].idleCount = s.trunks[k].idleCount

namespace GrantFrame

theorem refl (s : State) : GrantFrame s s := by constructor <;> first | rfl | intro; rfl

theorem trans {a b c : State} (h : GrantFrame a b) (k : GrantFrame b c) : GrantFrame a c where
  pending := k.pending.trans h.pending
  startUp := k.startUp.trans h.startUp
  hostLine := k.hostLine.trans h.hostLine
  queues := k.queues.trans h.queues
  backlog := k.backlog.trans h.backlog
  pool := k.pool.trans h.pool
  nodes := k.nodes.trans h.nodes
  nodeScheds := k.nodeScheds.trans h.nodeScheds
  supplies := k.supplies.trans h.supplies
  completions := k.completions.trans h.completions
  attention := k.attention.trans h.attention
  notices := k.notices.trans h.notices
  interval := k.interval.trans h.interval
  meters := k.meters.trans h.meters
  claims := k.claims.trans h.claims
  trunkState t := (k.trunkState t).trans (h.trunkState t)
  wait t := (k.wait t).trans (h.wait t)
  config t := (k.config t).trans (h.config t)
  mode t := (k.mode t).trans (h.mode t)
  idleCount t := (k.idleCount t).trans (h.idleCount t)

theorem modSched (t : TrunkId) (f : Scheduler → Scheduler) (s : State) : GrantFrame s (s.modSched t f) := by
  constructor <;> first | rfl | intro; rfl
theorem modEngine (t : TrunkId) (f : Engine → Engine) (s : State) : GrantFrame s (s.modEngine t f) := by
  constructor <;> first | rfl | intro; rfl
theorem setHeld (n : NodeId) (h : Option HeldExchange) (s : State) : GrantFrame s (s.setHeld n h) := by
  constructor <;> first | rfl | intro; rfl
theorem update (tag : Byte) (f : Order → Order) (s : State) : GrantFrame s (s.modTable (OrderTable.update tag f)) := by
  constructor <;> first | rfl | intro; rfl

theorem orderExchange (t : TrunkId) (b : Bool) (s : State) :
    GrantFrame s (s.modTrunk t fun c => { c with orderExchange := b }) := by
  constructor <;> first
    | rfl
    | intro k
      simp only [State.modTrunk_trunks, upd_get]
      split <;> rfl

theorem beginExchange (t : TrunkId) (x : Exchange) (g : Grant) (s : State) : GrantFrame s (s.beginExchange t x g) :=
  modEngine t _ s

theorem dropHeld (o : Order) (s : State) : GrantFrame s (s.dropHeld o) := by
  unfold State.dropHeld
  split
  · split
    · exact setHeld _ _ s
    · exact refl s
  · exact refl s

theorem startOrderExchange (n : NodeId) (o : Order) (b : Nat) (s : State) : GrantFrame s (s.startOrderExchange n o b) :=
  (((dropHeld o s).trans (update o.tag _ _)).trans (orderExchange _ true _)).trans (beginExchange _ _ _ _)

theorem startPoll (n : NodeId) (s : State) : GrantFrame s (s.startPoll n) := beginExchange _ _ _ s

theorem startAnnounce (t : TrunkId) (s : State) : GrantFrame s (s.startAnnounce t) :=
  (modSched t _ s).trans (beginExchange _ _ _ _)

theorem startFor (g : Group) (n : NodeId) (s : State) : GrantFrame s (s.startFor g n) := by
  cases g <;> simp only [State.startFor]
  · exact refl s
  · split
    · exact startOrderExchange n _ 1 s
    · exact refl s
  · split
    · exact startOrderExchange n _ 1 s
    · exact refl s
  · exact startPoll n s

/-- A trunk-free event, if its conditions hold (R76). -/
theorem trunkFree (t : TrunkId) (s : State) : GrantFrame s (s.trunkFree t) := by
  unfold State.trunkFree
  split
  · split
    · exact refl s
    · exact (modSched t _ s).trans (startAnnounce t _)
    · split
      · exact refl s
      · dsimp only
        split
        · exact ((modSched t _ s).trans (modSched t _ _)).trans (startFor _ _ _)
        · exact (modSched t _ s).trans (startFor _ _ _)
  · exact refl s

theorem trunksFree (s : State) : GrantFrame s s.trunksFree := forAll_rel refl trans _ trunkFree _ s

theorem becomeIdle (t : TrunkId) (s : State) : GrantFrame s (s.becomeIdle t) := (modEngine t _ s).trans (trunkFree t _)

/-- The end of a guard (R59, R88). -/
theorem guardEnd (t : TrunkId) (s : State) : GrantFrame s (s.guardEnd t) := by
  unfold State.guardEnd
  split
  · exact modEngine t _ s
  · split
    · exact startOrderExchange _ _ _ s
    · exact becomeIdle t s

end GrantFrame

/-! ## Everything a part in service does: the queue of commands, the start-up state and the host line stay -/

/-- What every event but those of the host line, of reset and of the memory check leaves as it was. -/
structure ServiceFrame (s t : State) : Prop where
  pending : t.pending = s.pending
  startUp : t.startUp = s.startUp
  hostLine : t.hostLine = s.hostLine
  mask : t.notices.mask = s.notices.mask
  watermark : t.completions.watermark = s.completions.watermark
  ageLimit : t.completions.ageLimit = s.completions.ageLimit

namespace ServiceFrame

theorem refl (s : State) : ServiceFrame s s := by constructor <;> rfl

theorem trans {a b c : State} (h : ServiceFrame a b) (k : ServiceFrame b c) : ServiceFrame a c where
  pending := k.pending.trans h.pending
  startUp := k.startUp.trans h.startUp
  hostLine := k.hostLine.trans h.hostLine
  mask := k.mask.trans h.mask
  watermark := k.watermark.trans h.watermark
  ageLimit := k.ageLimit.trans h.ageLimit

theorem ofOrder {s t : State} (h : OrderFrame s t) : ServiceFrame s t :=
  ⟨h.pending, h.startUp, h.hostLine, h.mask, h.watermark, h.ageLimit⟩

theorem ofGrant {s t : State} (h : GrantFrame s t) : ServiceFrame s t where
  pending := h.pending
  startUp := h.startUp
  hostLine := h.hostLine
  mask := by rw [h.notices]
  watermark := by rw [h.completions]
  ageLimit := by rw [h.completions]

theorem forAll {α : Type} (f : α → State → State) (h : ∀ a s, ServiceFrame s (f a s)) (l : List α) (s : State) :
    ServiceFrame s (Machine.forAll f l s) := forAll_rel refl trans f h l s

theorem latch (f : NoticeFlag) (s : State) : ServiceFrame s (s.latch f) := by constructor <;> rfl
theorem modNode (n : NodeId) (f : NodeRecord → NodeRecord) (s : State) : ServiceFrame s (s.modNode n f) := by
  constructor <;> rfl
theorem modNodeSched (n : NodeId) (f : NodeSchedule → NodeSchedule) (s : State) : ServiceFrame s (s.modNodeSched n f) := by
  constructor <;> rfl
theorem modSched (t : TrunkId) (f : Scheduler → Scheduler) (s : State) : ServiceFrame s (s.modSched t f) := by
  constructor <;> rfl
theorem modEngine (t : TrunkId) (f : Engine → Engine) (s : State) : ServiceFrame s (s.modEngine t f) := by
  constructor <;> rfl
theorem modTrunk (t : TrunkId) (f : TrunkControl → TrunkControl) (s : State) : ServiceFrame s (s.modTrunk t f) := by
  constructor <;> rfl
theorem modSupply (t : TrunkId) (f : SupplyMonitor → SupplyMonitor) (s : State) : ServiceFrame s (s.modSupply t f) := by
  constructor <;> rfl
theorem modMeter (t : TrunkId) (f : Meter → Meter) (s : State) : ServiceFrame s (s.modMeter t f) := by constructor <;> rfl
theorem modInterval (f : IntervalUnit → IntervalUnit) (s : State) : ServiceFrame s (s.modInterval f) := by
  constructor <;> rfl
theorem setClaims (c : List TickClaim) (s : State) : ServiceFrame s { s with claims := c } := by constructor <;> rfl
theorem setAttention (l : List AttentionEntry) (s : State) : ServiceFrame s { s with attention := l } := by
  constructor <;> rfl
theorem takeAttentionLevel (s : State) : ServiceFrame s s.takeAttentionLevel := by constructor <;> rfl

theorem wake (t : TrunkId) (s : State) : ServiceFrame s (s.wake t) := by
  unfold State.wake
  split
  · exact modTrunk t _ s
  · exact refl s

theorem clearBackoffs (t : TrunkId) (s : State) : ServiceFrame s (s.clearBackoffs t) :=
  (modSched t _ s).trans (forAll _ (fun n s => modNodeSched n _ s) _ _)

theorem enterDisabled (t : TrunkId) (s : State) : ServiceFrame s (s.enterDisabled t) :=
  (((modSupply t _ s).trans (modTrunk t _ _)).trans ((modEngine t _ _).trans (clearBackoffs t _))).trans (modMeter t _ _)

theorem enterActive (t : TrunkId) (w : WaitIndication) (s : State) : ServiceFrame s (s.enterActive t w) :=
  ((modTrunk t _ s).trans (modSched t _ _)).trans (forAll _ (fun n s => modNode n _ s) _ _)

theorem isolationTest (n : NodeId) (s : State) : ServiceFrame s (s.isolationTest n) := by
  unfold State.isolationTest
  dsimp only
  split
  · exact (((modNode n _ s).trans (forAll _ (fun a s => ofOrder (.endIsolated a s)) _ _)).trans (latch _ _)).trans
      (ofOrder (.count _ _ _))
  · exact refl s

theorem nodeOutcome (n : NodeId) (x : Exchange) (e : Ending) (s : State) : ServiceFrame s (s.nodeOutcome n x e) := by
  unfold State.nodeOutcome
  dsimp only
  refine (modNodeSched n NodeSchedule.reached s).trans ?_
  split
  · exact modNode n _ _
  · exact modNode n _ _
  · exact modNode n _ _
  · split
    · exact modNode n _ _
    · exact (modNode n _ _).trans (isolationTest n _)

theorem schedulerOutcome (n : NodeId) (e : Ending) (s : State) : ServiceFrame s (s.schedulerOutcome n e) := by
  unfold State.schedulerOutcome
  split
  · exact modNodeSched n _ s
  · exact refl s

theorem attentionOutcome (n : NodeId) (c : Byte) (s : State) : ServiceFrame s (s.attentionOutcome n c) := by
  unfold State.attentionOutcome
  split
  · exact refl s
  · exact ((setAttention _ s).trans (takeAttentionLevel _)).trans (wake _ _)

/-- The outcome of an exchange (R71, R72). -/
theorem takeOutcome (t : TrunkId) (n : NodeId) (x : Exchange) (e : Ending) (c : Byte) (s : State) :
    ServiceFrame s (s.takeOutcome t n x e c) :=
  (((((ofOrder (.count t _ s)).trans (modEngine t _ _)).trans (ofOrder (.orderOutcome x e _))).trans
    (nodeOutcome n x e _)).trans (schedulerOutcome n e _)).trans (attentionOutcome n c _)

theorem exchangeEnd (t : TrunkId) (n : NodeId) (x : Exchange) (e : Ending) (c : Byte) (s : State) :
    ServiceFrame s (s.exchangeEnd t n x e c) := by
  unfold State.exchangeEnd
  dsimp only
  split
  · exact (takeOutcome t n x e c s).trans (enterDisabled t _)
  · exact takeOutcome t n x e c s

/-- The end of one attempt (R60, R62). -/
theorem attemptEnd (t : TrunkId) (x : Exchange) (c : ReplyClass) (s : State) : ServiceFrame s (s.attemptEnd t x c) := by
  unfold State.attemptEnd
  split
  · exact refl s
  · split
    · exact exchangeEnd _ _ _ _ _ s
    · dsimp only
      split
      · exact modEngine t _ s
      · exact exchangeEnd _ _ _ _ _ s

theorem abortExchange (t : TrunkId) (s : State) : ServiceFrame s (s.abortExchange t) := by
  unfold State.abortExchange
  dsimp only
  refine ServiceFrame.trans ?_ ((modEngine t _ _).trans (forAll _ (fun n s => ofOrder (.setHeld n none s)) _ _))
  split
  · split
    · exact ofOrder (.count t _ s)
    · exact refl s
  · exact refl s

theorem reportTrunk (short : Bool) (span : Nat) (t : TrunkId) (s : State) : ServiceFrame s (s.reportTrunk short span t) := by
  unfold State.reportTrunk
  dsimp only
  split
  · exact refl s
  · split
    · exact ((modMeter t _ s).trans (latch _ _)).trans (latch _ _)
    · exact (modMeter t _ s).trans (latch _ _)

theorem intervalStartTrunk (t : TrunkId) (s : State) : ServiceFrame s (s.intervalStartTrunk t) := by
  unfold State.intervalStartTrunk
  dsimp only
  split
  · exact (modMeter t _ s).trans (modSched t _ _)
  · exact modMeter t _ s

/-- An interval end (R152, R154). -/
theorem closeInterval (short : Bool) (span : Nat) (s : State) : ServiceFrame s (s.closeInterval short span) :=
  ((((forAll _ (fun t s => reportTrunk short span t s) _ s).trans
    (forAll _ (fun t s => modTrunk t _ s) _ _)).trans
    (forAll _ (fun t s => intervalStartTrunk t s) _ _)).trans (modInterval _ _)).trans (ofGrant (.trunksFree _))

/-- One claim of a tick event (R151). -/
theorem applyClaim (c : TickClaim) (s : State) : ServiceFrame s (s.applyClaim c) := by
  cases c <;> simp only [State.applyClaim]
  · unfold State.takeExpiry
    split
    · split
      · exact (ofOrder (.endOrMark _ _ s)).trans (ofGrant (.trunkFree _ _))
      · exact refl s
    · exact refl s
  · unfold State.takeBackoffExpiry
    split
    · exact (modNodeSched _ _ s).trans (ofGrant (.trunkFree _ _))
    · exact refl s
  · unfold State.takePollDue
    split
    · exact (modNodeSched _ _ s).trans (ofGrant (.trunkFree _ _))
    · exact refl s
  · unfold State.takeHeadAged
    split
    · constructor <;> rfl
    · exact refl s
  · unfold State.advanceInterval
    split
    · exact modInterval _ s
    · exact closeInterval _ _ s

theorem takeClaim (c : TickClaim) (s : State) : ServiceFrame s (s.takeClaim c) := by
  unfold State.takeClaim
  split
  · exact (setClaims _ s).trans (applyClaim c _)
  · exact refl s

/-- A tick event (R151). -/
theorem tickEvent (s : State) : ServiceFrame s s.tickEvent := by
  unfold State.tickEvent
  exact (((setClaims [] s).trans (forAll _ applyClaim _ _)).trans (modInterval _ _)).trans (setClaims _ _)

theorem whenReady (f : State → State) (h : ∀ s, ServiceFrame s (f s)) (s : State) :
    ServiceFrame s (Machine.whenReady f s) := by
  unfold Machine.whenReady
  split
  · exact h s
  · exact refl s

theorem frameSent (t : TrunkId) (s : State) : ServiceFrame s (s.frameSent t) := by
  unfold State.frameSent
  split
  · split
    · exact modEngine t _ s
    · split
      · exact enterDisabled t s
      · exact modEngine t _ s
  · exact refl s

theorem attemptEndIn (t : TrunkId) (p : EnginePhase) (b : Bool) (c : ReplyClass) (s : State) :
    ServiceFrame s (s.attemptEndIn t p b c) := by
  unfold State.attemptEndIn
  split
  · split
    · exact attemptEnd t _ c s
    · exact refl s
  · exact refl s

theorem trunkByte (t : TrunkId) (b : Byte) (e : Bool) (s : State) : ServiceFrame s (s.trunkByte t b e) := by
  unfold State.trunkByte State.collect
  dsimp only
  split
  · split
    · split
      · exact attemptEnd t _ _ s
      · exact modEngine t _ s
    · exact refl s
  · exact refl s

theorem faultNotice (t : TrunkId) (s : State) : ServiceFrame s (s.faultNotice t) := by constructor <;> rfl

theorem faultRunning (t : TrunkId) (s : State) : ServiceFrame s (s.faultRunning t) := by
  unfold State.faultRunning
  dsimp only
  exact ((((((abortExchange t s).trans (forAll _ (fun tag s => ofOrder (.endOrder tag _ _ s)) _ _)).trans
    (modTrunk t _ _)).trans (modSupply t _ _)).trans (clearBackoffs t _)).trans (modMeter t _ _)).trans (faultNotice t _)

theorem faultStopping (t : TrunkId) (s : State) : ServiceFrame s (s.faultStopping t) := by
  unfold State.faultStopping
  dsimp only
  refine (abortExchange t s).trans (ServiceFrame.trans ?_ ((enterDisabled t _).trans (faultNotice t _)))
  split
  · exact ofOrder (.endOrder _ _ _ _)
  · exact refl _

/-- A supply fault (R109, R115, R116). -/
theorem supplyFault (t : TrunkId) (s : State) : ServiceFrame s (s.supplyFault t) := by
  unfold State.supplyFault
  split
  · split
    · exact faultRunning t s
    · exact faultRunning t s
    · exact faultStopping t s
    · exact refl s
    · exact refl s
  · exact refl s

theorem settleEnd (t : TrunkId) (s : State) : ServiceFrame s (s.settleEnd t) := by
  unfold State.settleEnd
  split
  · exact ((modSupply t _ s).trans (modTrunk t _ _)).trans (ofGrant (.trunkFree t _))
  · exact refl s

theorem recover (t : TrunkId) (s : State) : ServiceFrame s (s.recover t) := by
  unfold State.recover
  split
  · exact (((modSupply t _ s).trans (enterActive t _ _)).trans (latch _ _)).trans (ofGrant (.trunkFree t _))
  · exact refl s

end ServiceFrame

end Sys2Proof.Machine
end

