-- ==== Sys2Proof/Laws/Memory.lean ====
section
/-! SUPPORT. The segment memory and the segments: every write keeps the canonical form, what a read gives after a write, what writing
the data of a segment and freeing a segment do. -/

namespace Sys2Proof.Machine

open Sys2Proof

/-- Every entry after a write is the written one or an old one. -/
theorem Memory.mem_write {m : List Host.Cell} {a : Nat} {v : Byte} {c : Host.Cell} (h : c ∈ Memory.write m a v) :
    (c = (a, v) ∧ v ≠ Memory.unlisted) ∨ c ∈ m := by
  induction m with
  | nil =>
    unfold Memory.write at h
    split at h <;> simp_all
  | cons d m ih =>
    obtain ⟨b, w⟩ := d
    unfold Memory.write at h
    split at h
    · rcases List.mem_cons.1 h with h | h
      · exact .inr (by simp [h])
      · exact (ih h).imp id (List.mem_cons_of_mem _)
    · split at h
      · split at h
        · exact .inr (List.mem_cons_of_mem _ h)
        · rcases List.mem_cons.1 h with h | h
          · exact .inl ⟨h, ‹_›⟩
          · exact .inr (List.mem_cons_of_mem _ h)
      · split at h
        · exact .inr h
        · rcases List.mem_cons.1 h with h | h
          · exact .inl ⟨h, ‹_›⟩
          · exact .inr h

/-- A write keeps the canonical form. -/
theorem Memory.write_wf {m : List Host.Cell} (h : Memory.wf m) (a : Nat) (v : Byte) : Memory.wf (Memory.write m a v) := by
  refine ⟨?_, fun c hc => ?_⟩
  · induction m with
    | nil => unfold Memory.write; split <;> simp
    | cons d m ih =>
      obtain ⟨b, w⟩ := d
      obtain ⟨hp, hn⟩ := h
      rw [List.pairwise_cons] at hp
      have hm : Memory.wf m := ⟨hp.2, fun c hc => hn c (List.mem_cons_of_mem _ hc)⟩
      unfold Memory.write
      split
      · refine List.pairwise_cons.2 ⟨fun c hc => ?_, ih hm⟩
        rcases Memory.mem_write hc with ⟨rfl, _⟩ | hc
        · assumption
        · exact hp.1 c hc
      · split
        · subst b
          split
          · exact hp.2
          · exact List.pairwise_cons.2 ⟨hp.1, hp.2⟩
        · split
          · exact List.pairwise_cons.2 hp
          · refine List.pairwise_cons.2 ⟨fun c hc => ?_, List.pairwise_cons.2 hp⟩
            have hab : a < b := by omega
            rcases List.mem_cons.1 hc with rfl | hc
            · exact hab
            · exact Nat.lt_trans hab (hp.1 c hc)
  · rcases Memory.mem_write hc with ⟨rfl, hv⟩ | hc
    · exact hv
    · exact h.2 c hc

/-- Below every address of a rising list nothing is listed. -/
theorem Memory.read_below {m : List Host.Cell} {a : Nat} (h : ∀ c ∈ m, a < c.1) : Memory.read m a = Memory.unlisted := by
  induction m with
  | nil => rfl
  | cons d m ih =>
    have hd := h d (by simp)
    unfold Memory.read
    rw [if_neg (by omega)]
    exact ih fun c hc => h c (List.mem_cons_of_mem _ hc)

/-- A read of the address written gives the byte written. -/
theorem Memory.read_write_same {m : List Host.Cell} (h : Memory.wf m) (a : Nat) (v : Byte) :
    Memory.read (Memory.write m a v) a = v := by
  induction m with
  | nil => unfold Memory.write; split <;> simp_all [Memory.read]
  | cons d m ih =>
    obtain ⟨b, w⟩ := d
    obtain ⟨hp, hn⟩ := h
    rw [List.pairwise_cons] at hp
    unfold Memory.write
    split
    · rw [Memory.read, if_neg (by omega)]
      exact ih ⟨hp.2, fun c hc => hn c (List.mem_cons_of_mem _ hc)⟩
    · split
      · subst b
        split
        · rw [Memory.read_below hp.1]; exact Eq.symm ‹_›
        · simp [Memory.read]
      · split
        · have hab : a < b := by omega
          rw [Memory.read_below]
          · exact Eq.symm ‹_›
          · intro c hc
            rcases List.mem_cons.1 hc with rfl | hc
            · exact hab
            · exact Nat.lt_trans hab (hp.1 c hc)
        · simp [Memory.read]

/-- A read of another address gives what it gave before. -/
theorem Memory.read_write_other {m : List Host.Cell} (a b : Nat) (v : Byte) (hab : b ≠ a) :
    Memory.read (Memory.write m a v) b = Memory.read m b := by
  induction m with
  | nil => unfold Memory.write; split <;> simp [Memory.read, hab.symm]
  | cons d m ih =>
    obtain ⟨c, w⟩ := d
    unfold Memory.write
    split
    · simp only [Memory.read, ih]
    · split
      · subst c
        split <;> simp [Memory.read, hab.symm]
      · split
        · rfl
        · rw [Memory.read, if_neg (fun h => hab h.symm)]

/-- Every address after a write is the written one or an old one. -/
theorem Memory.write_below {m : List Host.Cell} {a k : Nat} {v : Byte} (ha : a < k) (h : ∀ c ∈ m, c.1 < k) :
    ∀ c ∈ Memory.write m a v, c.1 < k := by
  intro c hc
  rcases Memory.mem_write hc with ⟨rfl, _⟩ | hc
  · exact ha
  · exact h c hc

/-- An address of a position within a segment lies in the memory of 96 segments. -/
theorem segmentAddress_lt (g : SegId) {pos : Nat} (h : pos < 256) : segmentAddress g pos < 96 * 256 := by
  have := g.isLt
  show 256 * g.val + pos < 96 * 256
  omega

/-- Writing data keeps the memory canonical and within the segments. -/
theorem SegmentPool.writeData_mem (side : Owner) (tag : Byte) (chain : List SegId) (offset : Nat) (data : List Byte)
    (p : SegmentPool) (h : Memory.wf p.mem ∧ ∀ c ∈ p.mem, c.1 < 96 * 256) :
    Memory.wf (p.writeData side tag chain offset data).mem ∧
      ∀ c ∈ (p.writeData side tag chain offset data).mem, c.1 < 96 * 256 := by
  induction data generalizing offset p with
  | nil => exact h
  | cons v data ih =>
    unfold SegmentPool.writeData
    apply ih
    split
    · unfold SegmentPool.writeByte
      split
      · exact ⟨Memory.write_wf h.1 _ _, Memory.write_below (segmentAddress_lt _ (Nat.mod_lt _ (by decide))) h.2⟩
      · exact h
    · exact h

/-- What writing data within one segment can do: the bytes stand at their addresses, the fill count rises by their number, and every
other address, segment and the free list is as before (R32, R36, R41). -/
theorem SegmentPool.writeData_segment (side : Owner) (tag : Byte) (chain : List SegId) (g : SegId) (q : Nat)
    (hq : chain[q]? = some g) (data : List Byte) (b f : Nat) (p : SegmentPool) (hb : b + data.length ≤ 256)
    (hs : p.seg g = ⟨side, some tag, f⟩) (hw : Memory.wf p.mem) :
    let u := p.writeData side tag chain (256 * q + b) data
    u.freeList = p.freeList ∧ Memory.wf u.mem ∧
    (∀ h : SegId, u.seg h = if h = g then ⟨side, some tag, f + data.length⟩ else p.seg h) ∧
    (∀ i, i < data.length → some (Memory.read u.mem (256 * g.val + b + i)) = data[i]?) ∧
    ∀ a, a < 256 * g.val + b ∨ 256 * g.val + b + data.length ≤ a → Memory.read u.mem a = Memory.read p.mem a := by
  induction data generalizing b f p with
  | nil =>
    refine ⟨rfl, hw, fun h => ?_, fun i hi => absurd hi (Nat.not_lt_zero i), fun a _ => rfl⟩
    by_cases e : h = g
    · subst e; rw [if_pos rfl]; exact hs
    · rw [if_neg e]; rfl
  | cons v data ih =>
    simp only [List.length_cons] at hb ⊢
    have hb' : b < 256 := by omega
    have pos : chain[(256 * q + b) / Config.segmentBytes]? = some g := by
      rw [show (256 * q + b) / Config.segmentBytes = q by unfold Config.segmentBytes; omega, hq]
    have off : (256 * q + b) % Config.segmentBytes = b := by unfold Config.segmentBytes; omega
    have reached : p.reaches side tag g = true := by unfold SegmentPool.reaches; rw [hs]; simp
    have written : p.writeByte side tag g b v = { p with
        mem := Memory.write p.mem (segmentAddress g b) v, segs := upd p.segs g fun r => { r with fill := r.fill + 1 } } := by
      unfold SegmentPool.writeByte; rw [if_pos reached]
    unfold SegmentPool.writeData
    simp only [pos, off, written]
    have seg' : ∀ h : SegId, (upd p.segs g fun r => { r with fill := r.fill + 1 })[h] =
        if h = g then ⟨side, some tag, f + 1⟩ else p.seg h := by
      intro h
      by_cases e : h = g
      · subst e
        have hs' : p.segs[h] = ⟨side, some tag, f⟩ := hs
        simp only [Fin.getElem_fin] at hs' ⊢
        rw [upd_same_val, hs', if_pos trivial]
      · rw [upd_other _ _ _ _ e, if_neg e]; rfl
    obtain ⟨h1, h2, h3, h4, h5⟩ := ih (b + 1) (f + 1) { p with
        mem := Memory.write p.mem (segmentAddress g b) v, segs := upd p.segs g fun r => { r with fill := r.fill + 1 } }
      (by omega) ((seg' g).trans (if_pos rfl)) (Memory.write_wf hw _ _)
    rw [show 256 * q + (b + 1) = 256 * q + b + 1 by omega] at h1 h2 h3 h4 h5
    refine ⟨h1, h2, fun h => ?_, fun i hi => ?_, fun a ha => ?_⟩
    · rw [h3]
      by_cases e : h = g
      · rw [if_pos e, if_pos e, show f + 1 + data.length = f + (data.length + 1) by omega]
      · rw [if_neg e, if_neg e]; exact (seg' h).trans (if_neg e)
    · cases i with
      | zero =>
        rw [h5 _ (Or.inl (by omega))]
        exact congrArg some (Memory.read_write_same hw _ _)
      | succ i =>
        have := h4 i (by omega)
        rw [show 256 * g.val + (b + 1) + i = 256 * g.val + b + (i + 1) by omega] at this
        exact this
    · rw [h5 a (by omega)]
      exact Memory.read_write_other _ _ _ (by unfold segmentAddress Config.segmentBytes; omega)

/-- The free list after an insertion (R30). -/
theorem mem_insertFree (g h : SegId) (l : List SegId) : h ∈ insertFree g l ↔ h = g ∨ h ∈ l := by
  induction l with
  | nil => simp [insertFree]
  | cons a l ih =>
    unfold insertFree
    split
    · simp
    · split
      · simp_all
      · simp only [List.mem_cons, ih]; tauto

/-- What freeing a segment can do (R30). -/
theorem SegmentPool.freeSegment_segs (g : SegId) (p : SegmentPool) :
    (∀ h : SegId, (p.freeSegment g).seg h = (if h = g then ⟨.free, none, 0⟩ else p.seg h) ∧
      (h ∈ (p.freeSegment g).freeList ↔ h = g ∨ h ∈ p.freeList)) ∧ (p.freeSegment g).mem = p.mem := by
  refine ⟨fun h => ⟨?_, mem_insertFree g h p.freeList⟩, rfl⟩
  show (upd p.segs g fun _ => ⟨.free, none, 0⟩)[h] = _
  by_cases e : h = g
  · subst e; rw [upd_same, if_pos rfl]
  · rw [upd_other _ _ _ _ e, if_neg e]; rfl

end Sys2Proof.Machine
end

