-- ==== Sys2Proof/Laws/Orders.lean ====
section
/-! SUPPORT. The live entries, the finds and the node queues after each operation of the Order Table and the Segment Pool. -/

namespace Sys2Proof.Machine

open Sys2Proof

/-! ## The live entries -/

/-- Every order whose tag is `tag` is changed in its place. -/
theorem OrderTable.live_update (tag : Byte) (f : Order → Order) (t : OrderTable) :
    (t.update tag f).live = t.live.map fun o => if o.tag = tag then f o else o := by
  unfold OrderTable.live OrderTable.update
  rw [Vector.toList_map, List.filterMap_map, List.map_filterMap]
  rfl

/-- A released order is no longer live; the others keep their order. -/
theorem OrderTable.live_release (tag : Byte) (t : OrderTable) :
    (t.release tag).live = t.live.filter fun o => decide (o.tag ≠ tag) := by
  unfold OrderTable.live OrderTable.release
  rw [Vector.toList_map, List.filterMap_map, List.filter_filterMap]
  rfl

/-- A new order stands among the live ones, which keep their order. -/
theorem OrderTable.live_add (o : Order) (t : OrderTable) (h : t.hasFree = true) :
    ∃ a b, t.live = a ++ b ∧ (t.add o).live = a ++ o :: b := by
  unfold OrderTable.live OrderTable.add OrderTable.hasFree at *
  simp only [Vector.toList_setIfInBounds]
  revert h
  induction t.entries.toList with
  | nil => intro h; cases h
  | cons e l ih =>
    intro h
    cases e with
    | none => exact ⟨[], l.filterMap id, rfl, rfl⟩
    | some p =>
      obtain ⟨a, b, h1, h2⟩ := ih h
      refine ⟨p :: a, b, congrArg (List.cons p) h1, ?_⟩
      rw [List.findIdx_cons]
      exact congrArg (List.cons p) h2

theorem OrderTable.find_some {t : OrderTable} {tag : Byte} {o : Order} (h : t.find tag = some o) : o ∈ t.live ∧ o.tag = tag :=
  ⟨List.mem_of_find?_eq_some h, by simpa using List.find?_some h⟩

theorem OrderTable.find_none {t : OrderTable} {tag : Byte} : t.find tag = none ↔ ∀ o ∈ t.live, o.tag ≠ tag := by
  simp [OrderTable.find]

/-- Live orders of the same tag are the same (R2). -/
theorem eq_of_tag {l : List Order} (h : (l.map Order.tag).Nodup) {o p : Order} (ho : o ∈ l) (hp : p ∈ l) (e : o.tag = p.tag) :
    o = p := List.inj_on_of_nodup_map h ho hp e

/-- A live order is the one found by its tag (R2). -/
theorem OrderTable.find_live {t : OrderTable} (h : (t.live.map Order.tag).Nodup) {o : Order} (ho : o ∈ t.live) :
    t.find o.tag = some o := by
  cases e : t.find o.tag with
  | none => exact absurd rfl (find_none.1 e o ho)
  | some p => rw [eq_of_tag h (find_some e).1 ho (find_some e).2]

/-- A change of one live order, found by its tag. -/
theorem OrderTable.find_update {t : OrderTable} {tag : Byte} {f : Order → Order} (hf : ∀ o, (f o).tag = o.tag) (u : Byte) :
    (t.update tag f).find u = (t.find u).map fun o => if o.tag = tag then f o else o := by
  unfold OrderTable.find
  rw [live_update, List.find?_map]
  congr 2
  funext o
  by_cases h : o.tag = tag <;> simp [h, hf]

/-! ## The place in a node queue (R8) -/

/-- A queue after a new order has been placed in it. -/
def OrderTable.placed (t : OrderTable) (o : Order) : List Byte := (t.enqueue o).queue o.node

theorem OrderTable.enqueue_queue (t : OrderTable) (o : Order) (n : NodeId) :
    (t.enqueue o).queue n = if n = o.node then t.placed o else t.queue n := by
  split
  · subst n; rfl
  · simp [OrderTable.enqueue, OrderTable.queue, upd_other _ _ _ _ ‹_›]

@[simp] theorem OrderTable.enqueue_live (t : OrderTable) (o : Order) : (t.enqueue o).live = t.live := rfl
@[simp] theorem OrderTable.enqueue_backlog (t : OrderTable) (o : Order) : (t.enqueue o).backlog = t.backlog := rfl

/-- The new order joins the others of its queue. -/
theorem OrderTable.placed_perm (t : OrderTable) (o : Order) : (t.placed o).Perm (o.tag :: t.queue o.node) := by
  unfold OrderTable.placed OrderTable.enqueue OrderTable.queue
  simp only [Fin.getElem_fin, upd_same_val]
  cases o.cls with
  | routine => exact List.perm_append_singleton _ _
  | urgent =>
    dsimp only
    refine List.perm_middle.trans (List.Perm.cons _ ?_)
    rw [List.takeWhile_append_dropWhile]

/-- An ACTIVE head is not displaced. -/
theorem OrderTable.placed_head (t : OrderTable) (o p : Order) (hp : t.find p.tag = some p) (ha : p.state = .active)
    (hh : (t.queue o.node).head? = some p.tag) : (t.placed o).head? = some p.tag := by
  unfold OrderTable.placed OrderTable.enqueue OrderTable.queue
  simp only [Fin.getElem_fin, upd_same_val]
  unfold OrderTable.queue at hh
  simp only [Fin.getElem_fin] at hh
  cases hq : t.queues[o.node.val] with
  | nil => rw [hq] at hh; cases hh
  | cons a l =>
    rw [hq] at hh
    obtain rfl : a = p.tag := by simpa using hh
    cases o.cls <;> simp [hp, ha]

end Sys2Proof.Machine
end

