-- ==== Sys2Proof/Laws/Requests.lean ====
section
/-! SUPPORT. The shared operations of the host requests: the taking of a request, the checks of R171 and the frame's check byte. -/

namespace Sys2Proof.Machine

open Sys2Proof

/-! ## Frames -/

theorem byteSum_append (a b : List Byte) : byteSum (a ++ b) = byteSum a + byteSum b := by
  induction a with
  | nil => simp [byteSum]
  | cons x a ih =>
    show x + byteSum (a ++ b) = x + byteSum a + byteSum b
    rw [ih, BitVec.add_assoc]

/-- A frame built with its check byte is good by its check (R166). -/
theorem byteSum_checked (body : List Byte) : byteSum (body ++ [hostCheck body]) = 0xA5 := by
  rw [byteSum_append]
  simp [byteSum, hostCheck, BitVec.add_comm]

theorem requestFrame_sum (unit : BitVec 2) (kind : Byte) (p : List Byte) : byteSum (requestFrame unit kind p) = 0xA5 :=
  byteSum_checked _

theorem replyFrame_sum (unit : BitVec 2) (r : Reply) : byteSum (replyFrame unit r) = 0xA5 := byteSum_checked _

/-- A request frame is 5 bytes longer than its payload (10.2). -/
@[simp] theorem requestFrame_length (unit : BitVec 2) (kind : Byte) (p : List Byte) :
    (requestFrame unit kind p).length = p.length + 5 := by
  simp [requestFrame]

/-! ## Taking a request -/

/-- A request that is heard is answered by its rule against the state in which its frame has been taken. -/
theorem deliver_heard {s : State} (h : s.hears) (kind : Byte) (request : Request) {p : List Byte} (hp : p.length ≤ 200) :
    deliver kind request p s = (request p (s.taken kind p)).fixed kind := by
  unfold deliver
  rw [if_neg h.1]
  have hr : (s.hrxAfterByte false).hostLine.receiver ≠ .replying := h.2
  have hl : ¬ Config.hostPayloadLimit < p.length := by show ¬ 200 < p.length; omega
  dsimp only
  rw [if_neg hr, if_neg hl]
  rfl

/-- A request that arrives in reset does nothing. -/
theorem deliver_inReset {s : State} (h : s.startUp.part = .inReset) (kind : Byte) (request : Request) (p : List Byte) :
    deliver kind request p s = s := by
  unfold deliver
  rw [if_pos h]

/-- A request that arrives while a reply is under way is discarded (R172). -/
theorem deliver_replying {s : State} (h : s.startUp.part ≠ .inReset) (hr : s.hostLine.receiver = .replying) (kind : Byte)
    (request : Request) (p : List Byte) : deliver kind request p s = (s.hrxAfterByte false).discardWhileReplying := by
  unfold deliver
  rw [if_neg h]
  dsimp only
  exact if_pos hr

@[simp] theorem taken_startUp (s : State) (k : Byte) (p : List Byte) : (s.taken k p).startUp = s.startUp := rfl
@[simp] theorem taken_table (s : State) (k : Byte) (p : List Byte) : (s.taken k p).table = s.table := rfl
@[simp] theorem taken_pool (s : State) (k : Byte) (p : List Byte) : (s.taken k p).pool = s.pool := rfl
@[simp] theorem taken_nodes (s : State) (k : Byte) (p : List Byte) : (s.taken k p).nodes = s.nodes := rfl
@[simp] theorem taken_nodeScheds (s : State) (k : Byte) (p : List Byte) : (s.taken k p).nodeScheds = s.nodeScheds := rfl
@[simp] theorem taken_engines (s : State) (k : Byte) (p : List Byte) : (s.taken k p).engines = s.engines := rfl
@[simp] theorem taken_trunks (s : State) (k : Byte) (p : List Byte) : (s.taken k p).trunks = s.trunks := rfl
@[simp] theorem taken_supplies (s : State) (k : Byte) (p : List Byte) : (s.taken k p).supplies = s.supplies := rfl
@[simp] theorem taken_completions (s : State) (k : Byte) (p : List Byte) : (s.taken k p).completions = s.completions := rfl
@[simp] theorem taken_attention (s : State) (k : Byte) (p : List Byte) : (s.taken k p).attention = s.attention := rfl
@[simp] theorem taken_notices (s : State) (k : Byte) (p : List Byte) : (s.taken k p).notices = s.notices := rfl
@[simp] theorem taken_interval (s : State) (k : Byte) (p : List Byte) : (s.taken k p).interval = s.interval := rfl
@[simp] theorem taken_meters (s : State) (k : Byte) (p : List Byte) : (s.taken k p).meters = s.meters := rfl
@[simp] theorem taken_errorCount (s : State) (k : Byte) (p : List Byte) :
    (s.taken k p).hostLine.errorCount = s.hostLine.errorCount := rfl

/-! ## The checks of R171 -/

/-- A request that passes the checks of length, fields and part state is judged by its own conditions. -/
theorem checked_pass {gate : PartState → Option OutcomeCode} {l f : Bool} {body : State → Answer} {s : State}
    (hl : l = true) (hf : f = true) (hg : gate s.startUp.part = none) : checked gate l f body s = body s := by
  simp [checked, hl, hf, hg]

theorem checked_badLength {gate : PartState → Option OutcomeCode} {f : Bool} {body : State → Answer} {s : State} :
    checked gate false f body s = refuse .badLength s := by
  simp [checked]

theorem checked_badField {gate : PartState → Option OutcomeCode} {body : State → Answer} {s : State} :
    checked gate true false body s = refuse .badField s := by
  simp [checked]

theorem checked_gate {gate : PartState → Option OutcomeCode} {l f : Bool} {body : State → Answer} {s : State}
    {o : OutcomeCode} (hl : l = true) (hf : f = true) (hg : gate s.startUp.part = some o) :
    checked gate l f body s = refuse o s := by
  simp [checked, hl, hf, hg]

/-- Every answer through the checks is a refusal that changes nothing, or the answer of the request's own conditions. -/
theorem checked_cases (gate : PartState → Option OutcomeCode) (l f : Bool) (body : State → Answer) (s : State) :
    (∃ o, checked gate l f body s = refuse o s) ∨ checked gate l f body s = body s := by
  unfold checked
  split
  · exact .inl ⟨_, rfl⟩
  · split
    · exact .inl ⟨_, rfl⟩
    · split
      · exact .inl ⟨_, rfl⟩
      · exact .inr rfl

/-- The first own condition that holds gives a refusal that changes nothing, else the effect follows. -/
theorem firstOf_cases (tests : List (Bool × OutcomeCode)) (body : State → Answer) (s : State) :
    (∃ o, firstOf tests body s = refuse o s) ∨ firstOf tests body s = body s := by
  unfold firstOf
  split
  · exact .inl ⟨_, rfl⟩
  · exact .inr rfl

/-- What a posting of the head does (R130): nothing when the backlog is empty or the queue full, else one record moves. -/
theorem postHead_cases (s : State) :
    (s.postHead = s ∧ (s.table.backlog = [] ∨ 32 ≤ s.completions.records.length)) ∨
    ∃ r rest, s.table.backlog = r :: rest ∧ s.completions.records.length < 32 ∧ s.postHead.table.backlog = rest ∧
      s.postHead.completions.records = s.completions.records ++ [⟨r, s.interval.tick⟩] := by
  unfold State.postHead
  split
  · exact .inl ⟨rfl, .inl ‹_›⟩
  · rename_i r rest hb
    split
    · refine .inr ⟨r, rest, hb, ‹_›, ?_⟩
      dsimp only
      split <;> exact ⟨rfl, rfl⟩
    · rename_i h
      exact .inl ⟨rfl, .inr (by simpa [Config.completionRecords] using h)⟩

/-! ## What the statements cite -/

/-- A refusal leaves the state with its own reply alone (R171). -/
theorem refuse_fixed (k : Byte) (o : OutcomeCode) (s : State) (p : List Byte) (h : o ≠ .accepted) :
    (refuse o (s.taken k p)).fixed k = s.answered k p o [] := by
  simp [refuse, Answer.fixed, State.answered, State.withReply, State.modHostLine, h]

/-- The shared refusals of a request whose rule is the checks of R171 with these length and field tests. -/
theorem refusesBadForms_of {mk : List Byte → Instr} {kind : Byte} {req : Request} {lengthOk fieldsOk : List Byte → Prop}
    {l f : List Byte → Bool}
    (hmk : ∀ p s, exec (mk p) s = .next (deliver kind req p s))
    (hr : ∀ p s, ∃ body, req p s = checked gateReady (l p) (f p) body s) (hl : ∀ p, l p = true ↔ lengthOk p)
    (hf : ∀ p, lengthOk p → (f p = true ↔ fieldsOk p)) : RefusesBadForms mk kind lengthOk fieldsOk := by
  intro p s hs hp
  obtain ⟨body, hb⟩ := hr p (s.taken kind p)
  rw [hmk, deliver_heard hs _ _ hp, hb]
  refine ⟨fun h => ?_, fun h h' => ?_, fun h h' hpart => ?_, fun h h' hpart => ?_⟩
  · have : l p = false := by have := hl p; cases h : l p <;> simp_all
    rw [this, checked_badLength, refuse_fixed _ _ _ _ (by decide)]
  · have h1 : l p = true := (hl p).2 h
    have h2 : f p = false := by have := hf p h; cases h : f p <;> simp_all
    rw [h1, h2, checked_badField, refuse_fixed _ _ _ _ (by decide)]
  · rw [checked_gate (o := .starting) ((hl p).2 h) ((hf p h).2 h') (by simp [hpart, gateReady]), refuse_fixed _ _ _ _ (by decide)]
  · rw [checked_gate (o := .failed) ((hl p).2 h) ((hf p h).2 h') (by simp [hpart, gateReady]), refuse_fixed _ _ _ _ (by decide)]

/-- A part that serves requests hears them. -/
theorem serves_hears {s : State} (h : s.serves) : s.hears := ⟨by rw [h.1]; decide, h.2⟩

/-- A two-byte field as a number. -/
theorem wordAt_toNat (p : List Byte) (i : Nat) : (wordAt p i).toNat = pairAt p i := by
  simp only [wordAt, pairAt, BitVec.toNat_append]
  rw [Nat.shiftLeft_eq, Nat.mul_comm, ← Nat.two_pow_add_eq_or_of_lt (byteAt p i).isLt]
  omega

/-- A request of a part that serves it is answered against the state in which its frame has been taken. -/
theorem exec_served {mk : List Byte → Instr} {kind : Byte} {req : Request} {p : List Byte} {s : State} (hs : s.serves)
    (hp : p.length ≤ 200) (hmk : exec (mk p) s = .next (deliver kind req p s)) :
    exec (mk p) s = .next ((req p (s.taken kind p)).fixed kind) := by
  rw [hmk, deliver_heard (serves_hears hs) _ _ hp]

/-- A READY part passes the part-state check of every kind (R180). -/
theorem gateReady_taken {s : State} (hs : s.serves) (k : Byte) (p : List Byte) : gateReady (s.taken k p).startUp.part = none := by
  simp [hs.1, gateReady]

end Sys2Proof.Machine
end

