-- ==== Sys2Proof/Laws/PerInstr.lean ====
section
/-! SUPPORT. A statement about each command as syntax: the frame of a request is good by its check (R166). -/

namespace Sys2Proof.Laws.RequestFrame

open Sys2Proof Sys2Proof.Machine

/-- The frame that carries a request to any unit is good by its check; an event has no frame. -/
def Statement (i : Instr) : Prop :=
  ∀ (unit : BitVec 2) (kind : Byte) (p : List Byte), i.request? = some (kind, p) → byteSum (requestFrame unit kind p) = 0xA5

theorem any (i : Instr) : Statement i := fun unit kind p _ => requestFrame_sum unit kind p

theorem readIdentity (payload : List Byte) : Statement (.readIdentity payload) := any _
theorem readStatus (payload : List Byte) : Statement (.readStatus payload) := any _
theorem resetPart (payload : List Byte) : Statement (.resetPart payload) := any _
theorem setNoticeMask (payload : List Byte) : Statement (.setNoticeMask payload) := any _
theorem clearNotices (payload : List Byte) : Statement (.clearNotices payload) := any _
theorem submitOrder (payload : List Byte) : Statement (.submitOrder payload) := any _
theorem fillOrder (payload : List Byte) : Statement (.fillOrder payload) := any _
theorem commitOrder (payload : List Byte) : Statement (.commitOrder payload) := any _
theorem cancelOrder (payload : List Byte) : Statement (.cancelOrder payload) := any _
theorem readOrder (payload : List Byte) : Statement (.readOrder payload) := any _
theorem readFetched (payload : List Byte) : Statement (.readFetched payload) := any _
theorem retireOrder (payload : List Byte) : Statement (.retireOrder payload) := any _
theorem takeCompletions (payload : List Byte) : Statement (.takeCompletions payload) := any _
theorem setCompletionNotice (payload : List Byte) : Statement (.setCompletionNotice payload) := any _
theorem readAttention (payload : List Byte) : Statement (.readAttention payload) := any _
theorem clearAttention (payload : List Byte) : Statement (.clearAttention payload) := any _
theorem readNode (payload : List Byte) : Statement (.readNode payload) := any _
theorem enableNode (payload : List Byte) : Statement (.enableNode payload) := any _
theorem disableNode (payload : List Byte) : Statement (.disableNode payload) := any _
theorem restoreNode (payload : List Byte) : Statement (.restoreNode payload) := any _
theorem setTrunk (payload : List Byte) : Statement (.setTrunk payload) := any _
theorem readTrunk (payload : List Byte) : Statement (.readTrunk payload) := any _
theorem enableTrunk (payload : List Byte) : Statement (.enableTrunk payload) := any _
theorem disableTrunk (payload : List Byte) : Statement (.disableTrunk payload) := any _
theorem setModeCode (payload : List Byte) : Statement (.setModeCode payload) := any _
theorem readReport (payload : List Byte) : Statement (.readReport payload) := any _
theorem setInterval (payload : List Byte) : Statement (.setInterval payload) := any _
theorem syncInterval (payload : List Byte) : Statement (.syncInterval payload) := any _
theorem resetPeak (payload : List Byte) : Statement (.resetPeak payload) := any _
theorem hostByteReceived (byte : Byte) (framingError : Bool) : Statement (.hostByteReceived byte framingError) := any _
theorem gapTimeout : Statement (.gapTimeout) := any _
theorem replyStart : Statement (.replyStart) := any _
theorem replyEnd : Statement (.replyEnd) := any _
theorem lineHoldReset : Statement (.lineHoldReset) := any _
theorem pinReset : Statement (.pinReset) := any _
theorem powerOnReset : Statement (.powerOnReset) := any _
theorem resetRelease (unit rate : BitVec 2) (hrxLow : Bool) : Statement (.resetRelease unit rate hrxLow) := any _
theorem memoryCheckPassed : Statement (.memoryCheckPassed) := any _
theorem memoryCheckFailed : Statement (.memoryCheckFailed) := any _
theorem tick : Statement (.tick) := any _
theorem orderExpiry (tag : Byte) : Statement (.orderExpiry tag) := any _
theorem busyBackoffExpiry (node : NodeId) : Statement (.busyBackoffExpiry node) := any _
theorem pollDue (node : NodeId) : Statement (.pollDue node) := any _
theorem headRecordAged : Statement (.headRecordAged) := any _
theorem intervalEnd : Statement (.intervalEnd) := any _
theorem frameSent (trunk : TrunkId) : Statement (.frameSent trunk) := any _
theorem replyStartTimeout (trunk : TrunkId) : Statement (.replyStartTimeout trunk) := any _
theorem trunkByteReceived (trunk : TrunkId) (byte : Byte) (framingError : Bool) : Statement (.trunkByteReceived trunk byte framingError) := any _
theorem replyGapTimeout (trunk : TrunkId) : Statement (.replyGapTimeout trunk) := any _
theorem faultWaitEnd (trunk : TrunkId) : Statement (.faultWaitEnd trunk) := any _
theorem guardEnd (trunk : TrunkId) : Statement (.guardEnd trunk) := any _
theorem senseChange (trunk : TrunkId) (good : Bool) : Statement (.senseChange trunk good) := any _
theorem supplyFault (trunk : TrunkId) : Statement (.supplyFault trunk) := any _
theorem settleEnd (trunk : TrunkId) : Statement (.settleEnd trunk) := any _
theorem trunkRecovery (trunk : TrunkId) : Statement (.trunkRecovery trunk) := any _

end Sys2Proof.Laws.RequestFrame
end

