-- ==== Sys2Proof/Tests/Slice0.lean ====
section
/-! SUPPORT. The model's own tests: ill-formed commands, words and sums the spec works out, and for every statement with
hypotheses a state and operands that meet them, clause by clause, at the values where the clauses meet. -/

namespace Sys2Proof.Machine

/-! ## Small changes of a state -/

/-- The state with this order in entry 0. -/
def State.holding (s : State) (o : Order) : State :=
  { s with table := { s.table with entries := s.table.entries.set 0 (some o) } }
/-- The state with this queue of node 0. -/
def State.queued (s : State) (q : List Byte) : State :=
  { s with table := { s.table with queues := s.table.queues.set 0 q } }
/-- The state with segment 0 in this record. -/
def State.segment (s : State) (g : Segment) : State :=
  { s with pool := { s.pool with segs := s.pool.segs.set 0 g } }
def State.node0 (s : State) (st : NodeState) : State := { s with nodes := s.nodes.set 0 ⟨st, false, 0, 0, 0⟩ }
/-- The state with trunk A's engine in this phase with this exchange. -/
def State.engine0 (s : State) (ph : EnginePhase) (x : Option Exchange) (rx : List Byte) (fault : Bool) : State :=
  { s with engines := s.engines.set 0 ⟨ph, x, none, rx, fault, 0⟩ }

end Sys2Proof.Machine

namespace Sys2Proof.Tests

open Sys2Proof Sys2Proof.Machine

/-! ## Ill-formed commands -/

theorem test_wellFormed_rejects_payload_of_201 :
    (Instr.fillOrder (List.replicate 201 0)).wellFormed = false ∧
    (Instr.fillOrder (List.replicate 200 0)).wellFormed = true := by decide +kernel

theorem test_wellFormed_rejects_tag_zero :
    (Instr.orderExpiry 0).wellFormed = false ∧ (Instr.orderExpiry 255).wellFormed = true := by decide

/-! ## Small states -/

def mkPart (p : PartState) : State := { State.reset with startUp := ⟨p, .powerOn, false, false, false⟩ }
def rdy : State := mkPart .ready
def starting : State := State.reset
def failed : State := mkPart .failed
def inReset : State := mkPart .inReset

/-- A READY part with every trunk in this state and wait. -/
def trunksIn (st : TrunkState) (w : WaitIndication) : State :=
  { rdy with trunks := Vector.replicate 3 ⟨st, w, .default, 63, 0, false⟩
             supplies := Vector.replicate 3 ⟨true, true, false, false, false, false⟩ }
def act : State := trunksIn .active .none

def mkOrder (tag : Byte) (k : OrderKind) (st : OrderState) : Order where
  tag := tag
  node := 0
  kind := k
  cls := .routine
  point := none
  length := 8
  inlineData := []
  seed := none
  deadline := none
  accepted := 0
  chain := []
  fill := 0
  progress := 0
  retries := 0
  mark := none
  result := none
  nakReason := 0
  endStamp := 0
  state := st

def mkExch (node : Option NodeId) (order : Option Byte) (type : ExchangeType) : Exchange :=
  ⟨node, type, order, false, false, 63, 0, 0, 0, false, 0, 0, 0, []⟩
def rec0 : CompletionRecord := ⟨1, 0, .pointRead, .done, 0, 8, 0, 0, []⟩
def withRecords (s : State) (n : Nat) : State :=
  { s with completions := { s.completions with records := List.replicate n ⟨rec0, 0⟩ } }

def frameOf (address kind : Byte) (p : List Byte) : List Byte :=
  let body := 0xB5#8 :: address :: kind :: byteOf p.length :: p
  body ++ [hostCheck body]
/-- The READY part with all of a frame but its last byte received. -/
def almost (f : List Byte) : State :=
  { rdy with hostLine := { rdy.hostLine with receiver := .inFrame, buffer := f.dropLast, gapTimer := true } }
def lastOf (f : List Byte) : Byte := f.getLastD 0
def replying : State :=
  { rdy with hostLine := { rdy.hostLine with receiver := .replying, reply := some ⟨2, .accepted, [], false⟩ } }

/-! ## What the spec works out -/

/-- 10.10: READ_STATUS to unit 2 is B5 02 02 00 EC, and its reply ends with the check 0x91. -/
theorem test_readStatus_frames :
    requestFrame 2 0x02 [] = [0xB5, 0x02, 0x02, 0x00, 0xEC] ∧
    replyFrame 2 ⟨0x02, .accepted, [0x01, 0x00, 0xD2, 0x04, 0x00, 0x00, 0x0F, 0x00, 0x00, 0x00, 0x00, 0x60, 0x00, 0x01, 0x01,
      0x00, 0x00, 0x00], false⟩ =
      [0xB6, 0x02, 0x02, 0x00, 0x12, 0x01, 0x00, 0xD2, 0x04, 0x00, 0x00, 0x0F, 0x00, 0x00, 0x00, 0x00, 0x60, 0x00, 0x01, 0x01,
       0x00, 0x00, 0x00, 0x91] := by decide +kernel

/-- The check of R49 over the nine digits. -/
theorem test_trunkCheck_digits : trunkCheck [0x31, 0x32, 0x33, 0x34, 0x35, 0x36, 0x37, 0x38, 0x39] = 0x29B1 := by decide +kernel

/-- 3.11: the PUT of order 61 to station 4, sequence bit 1, mode code 63. -/
theorem test_put_frame :
    (trunkFrame 4 .put true false 63 [0x20, 0x01, 0x05, 0x00]).take 10 =
      [0x96, 0x04, 0x0A, 0x3F, 0x04, 0x00, 0x20, 0x01, 0x05, 0x00] := by decide

/-! ## Witnesses: the machine and the host line -/

theorem test_step_idle : State.reset.pending = [] ∧ step State.reset = .next State.reset := ⟨rfl, rfl⟩

theorem test_requestFrame_hyps :
    (Instr.fillOrder (List.replicate 200 0)).request? = some (0x11, List.replicate 200 0) ∧
    (List.replicate 200 (0 : Byte)).length ≤ 200 ∧ State.reset.startUp.part ≠ .inReset ∧
    State.reset.hostLine.receiver = .hunting := by decide +kernel

theorem test_refused_hyps :
    State.reset.hears ∧ (Instr.readStatus [0]).request? = some (0x02, [0]) ∧
    exec (.readStatus [0]) State.reset = .next (State.reset.answered 0x02 [0] .badLength []) ∧
    (State.reset.answered 0x02 [0] .badLength []).hostLine.reply = some ⟨0x02, .badLength, [], false⟩ :=
  ⟨by decide +kernel, rfl, rfl, rfl⟩

theorem test_hostByte_hyps :
    (rdy.startUp.part ≠ .inReset ∧ rdy.hostLine.receiver = .hunting) ∧
    (let s := almost [0xB5, 0, 0]
     s.hostLine.receiver = .inFrame ∧ (s.bufferWith 0).length < 4) ∧
    (let s := almost [0xB5, 0, 2, 0]
     s.hostLine.receiver = .inFrame ∧ (s.bufferWith 200).length = 4 ∧ (200#8).toNat ≤ 200 ∧ 200 < (201#8).toNat) ∧
    (let s := almost [0xB5, 0, 2, 2, 0, 0]
     4 < (s.bufferWith 0).length ∧ (s.bufferWith 0).length ≠ 5 + (byteAt (s.bufferWith 0) 3).toNat) ∧
    (let s := almost (frameOf 0 2 [])
     s.completes 0 ∧ byteSum (s.bufferWith 0) ≠ 0xA5) := by decide +kernel

/-- A frame to another unit, one of an unknown kind, four broadcasts, and a READ_STATUS to this unit with the bits 2 to 6 of byte 1
set. -/
theorem test_goodFrame_hyps :
    (∀ f ∈ [frameOf 1 2 [], frameOf 0 0x04 [], frameOf 0x80 2 [], frameOf 0x80 3 [], frameOf 0x80 0x32 [],
        frameOf 0x80 0x2C [3, 63], frameOf 0x7C 2 []],
      (almost f).completes (lastOf f) ∧ byteSum ((almost f).bufferWith (lastOf f)) = 0xA5) ∧
    (let f := frameOf 0x7C 2 []
     (byteAt f 1).getLsbD 7 = false ∧ (byteAt f 1).setWidth 2 = (almost f).hostLine.unit ∧
       (Instr.readStatus []).request? = some (byteAt f 2, (f.drop 4).take (byteAt f 3).toNat)) := by decide +kernel

theorem test_reply_hyps :
    (replying.startUp.part ≠ .inReset ∧ replying.hostLine.receiver = .replying ∧
      replying.hostLine.reply = some ⟨2, .accepted, [], false⟩ ∧ replying.hostLine.htx = none ∧
      replying.hostLine.replyErrorCounted = false) ∧
    (∃ s, exec .replyStart replying = .next s ∧ s.hostLine.reply ≠ none ∧ s.hostLine.htx ≠ none) := by
  exact ⟨by decide +kernel, _, rfl, by decide +kernel, by decide +kernel⟩

/-- A request command that is not taken: in reset, during a reply before and after its first byte, with a payload of 201 bytes. -/
theorem test_notTaken_hyps :
    (Instr.fillOrder (List.replicate 201 0)).request? = some (0x11, List.replicate 201 0) ∧
    200 < (List.replicate 201 (0 : Byte)).length ∧ inReset.startUp.part = .inReset ∧ rdy.startUp.part ≠ .inReset ∧
    rdy.hostLine.receiver ≠ .replying ∧ replying.hostLine.replyErrorCounted = false ∧
    (∃ s, exec (.readStatus []) replying = .next s ∧ s.hostLine.receiver = .replying ∧
      s.hostLine.replyErrorCounted = true) :=
  ⟨by decide +kernel, by decide +kernel, by decide, by decide, by decide, by decide, _, rfl, by decide +kernel, by decide +kernel⟩

/-! ## Witnesses: the forms that every request shares -/

theorem test_hears : starting.hears ∧ failed.hears ∧ rdy.hears ∧ rdy.serves ∧ act.serves ∧
    starting.startUp.part = .starting ∧ failed.startUp.part = .failed := by decide +kernel

/-- A payload of a wrong length, and one of the right length with a field out of range; both fit a frame. -/
theorem test_bad_forms :
    ([0#8].length ≠ 2 ∧ ¬ (byteAt [0, 2] 1).toNat < 2 ∧ (byteAt [0, 1] 1).toNat < 2) ∧
    (¬ 12 ≤ [0#8].length ∧ byteAt (List.replicate 12 0) 0 = 0 ∧ (List.replicate 12 (0 : Byte)).length = 12) ∧
    (¬ 4 ≤ [0#8].length ∧ byteAt [0, 0, 0, 1, 0] 0 = 0 ∧ pairAt [1, 0, 8, 1, 0] 1 = 2048 ∧ pairAt [1, 255, 7, 1, 0] 1 = 2047) ∧
    ((byteAt [0] 0).toNat = 0 ∧ (byteAt [8] 0).toNat = 8 ∧ (byteAt [24] 0).toNat = 24 ∧ (byteAt [33, 0] 0).toNat = 33) ∧
    (pairAt [99, 0] 0 = 99 ∧ pairAt [100, 0] 0 = 100 ∧ pairAt [0x70, 0x17] 0 = 6000 ∧ pairAt [0x71, 0x17] 0 = 6001) ∧
    ((byteAt [4, 64] 0).toNat = 4 ∧ (byteAt [3, 64] 1).toNat = 64) := by decide

/-! ## Witnesses: start-up and reset -/

/-- A part in reset with these conditions held. -/
def held (powerOn pin lineHold : Bool) : State := { rdy with startUp := ⟨.inReset, .pin, powerOn, pin, lineHold⟩ }

/-- HRX low holds the reset while a line hold is held, alone and beside each other condition, and no other condition makes it so. -/
theorem test_reset_hyps :
    inReset.startUp.part = .inReset ∧ rdy.startUp.part ≠ .inReset ∧ starting.startUp.part = .starting ∧
    (∀ c ∈ [held false false true, held false true true, held true false true],
      c.startUp.part = .inReset ∧ (true = true ∧ c.startUp.heldLineHold = true) ∧
        ¬ (false = true ∧ c.startUp.heldLineHold = true)) ∧
    (∀ c ∈ [held false false false, held false true false, held true false false],
      c.startUp.part = .inReset ∧ ¬ (true = true ∧ c.startUp.heldLineHold = true)) := by decide +kernel

/-- A line hold, then RSTn, then a release with HRX low (R177): the part stays in reset until HRX is high. -/
theorem test_release_waits_for_HRX :
    (∃ s, exec .lineHoldReset rdy = .next s ∧ ∃ u, exec .pinReset s = .next u ∧ u.startUp.cause = .pin ∧
      exec (.resetRelease 0 0 true) u = .next u ∧
      ∃ v, exec (.resetRelease 0 0 false) u = .next v ∧ v.startUp = ⟨.starting, .pin, false, false, false⟩) :=
  ⟨_, rfl, _, rfl, rfl, rfl, _, rfl, rfl⟩

/-! ## Witnesses: orders -/

def seg0 (o : Owner) (tag : Byte) (fill : Nat) : Segment := ⟨o, some tag, fill⟩

theorem test_submitForm_hyps :
    submitFieldsOk 1 .pointWrite 0 16 0 (List.replicate 16 0) ∧ submitFieldsOk 255 .bulkSend 0 2048 0 [] ∧
    submitFieldsOk 1 .echoTest 0 256 7 [] ∧ submitFieldsOk 1 .nodeReset 0 0 0 [] ∧ submitFieldsOk 1 .pointRead 9 1 0 [] ∧
    submitFieldsOk 1 .bulkFetch 0 1 0 [] := by decide

theorem test_submitRefusals_hyps :
    (act.holding (mkOrder 1 .pointRead .queued)).table.find 1 ≠ none ∧
    (let s : State := { act with table := { act.table with entries := Vector.replicate 48 (some (mkOrder 2 .pointRead .queued)) } }
     s.table.find 1 = none ∧ ∀ i : Fin 48, s.table.entries[i] ≠ none) ∧
    (act.table.find 1 = none ∧ ∃ i : Fin 48, act.table.entries[i] = none) ∧
    (trunksIn .down .recovery).trunks[trunkOf 0].state = .down ∧
    (act.node0 .isolated).nodes[(0 : NodeId)].state = .isolated ∧
    (act.queued [2, 3, 4, 5, 6, 7]).table.queue 0 = [2, 3, 4, 5, 6, 7] ∧
    (let s : State := { act with pool := { act.pool with freeList := [0, 1, 2, 3, 4, 5, 6] } }
     s.pool.freeList.length < ((2048#16).toNat + 255) / 256) := by decide +kernel

theorem test_submitAccepted_hyps :
    act.serves ∧ act.table.find 1 = none ∧ (∃ i : Fin 48, act.table.entries[i] = none) ∧
    act.trunks[trunkOf 0].state = .active ∧ act.nodes[(0 : NodeId)].state = .unseen ∧
    ((act.queued [2, 3, 4, 5, 6]).table.queue 0).length < 6 ∧ 1 ∉ (act.queued [2, 3, 4, 5, 6]).table.queue 0 ∧
    ((2048#16).toNat + 255) / 256 ≤ act.pool.freeList.length := by decide +kernel

/-- A FILLING order of 8 bytes with 4 filled, whose segment 0 the host holds. -/
def filling : State :=
  (act.holding { mkOrder 1 .bulkSend .filling with chain := [0], fill := 4 }).segment (seg0 .hostSide 1 4)

theorem test_fill_hyps :
    filling.serves ∧ filling.table.find 1 = some { mkOrder 1 .bulkSend .filling with chain := [0], fill := 4 } ∧
    filling.table.find 2 = none ∧ Memory.wf filling.pool.mem ∧ [(0 : SegId)].Nodup ∧
    (filling.pool.seg 0).owner = .hostSide ∧ (filling.pool.seg 0).tag = some 1 ∧
    (∀ i : Fin 4, [(0 : SegId)][(4 + i.val) / 256]? = some 0) := by decide +kernel

theorem test_commit_hyps :
    (let s := act.holding { mkOrder 1 .bulkSend .filling with fill := 8 }
     s.table.find 1 = some { mkOrder 1 .bulkSend .filling with fill := 8 } ∧ 1 ∉ s.table.queue 0 ∧
       (s.table.queue 0).length < 6) ∧
    (filling.table.find 1).map Order.fill = some 4 ∧
    ((act.holding { mkOrder 1 .bulkSend .filling with fill := 8 }).queued [2, 3, 4, 5, 6, 7]).table.queue 0 =
      [2, 3, 4, 5, 6, 7] := by decide +kernel

/-- An order whose exchange is in flight. -/
def inFlight : State :=
  ((act.holding (mkOrder 1 .bulkFetch .active)).queued [1]).engine0 .awaiting (some (mkExch (some 0) (some 1) .fetchBlock)) []
    false

theorem test_cancel_hyps :
    (∀ st ∈ [OrderState.filling, .queued, .active, .ended, .parked],
      (act.holding (mkOrder 1 .pointRead st)).table.find 1 = some (mkOrder 1 .pointRead st)) ∧
    inFlight.table.find 1 = some (mkOrder 1 .bulkFetch .active) ∧
    inFlight.engines[trunkOf 0].exch = some (mkExch (some 0) (some 1) .fetchBlock) ∧ act.engines[trunkOf 0].exch = none := by
  decide +kernel

/-- At, before and after the deadline of an order of age 4. -/
theorem test_readOrder_hyps :
    (let s : State := { act with interval := { act.interval with tick := 4 } }
     (s.interval.tick - (mkOrder 1 .pointRead .queued).accepted).toNat = 4) ∧
    (inFlight.table.queue 0)[0]? = some 1 ∧ 1 ∉ (inFlight.table.queue 0).take 0 ∧ 2 ∉ inFlight.table.queue 0 := by
  decide +kernel

/-- A PARKED fetch of 4 bytes in segment 0, of which the host holds all. -/
def parked : State :=
  (act.holding { mkOrder 1 .bulkFetch .parked with chain := [0], progress := 4 }).segment (seg0 .hostSide 1 4)

theorem test_readFetched_hyps :
    parked.serves ∧ parked.table.find 1 = some { mkOrder 1 .bulkFetch .parked with chain := [0], progress := 4 } ∧
    (∀ i : Fin 4, [(0 : SegId)][i.val / 256]? = some 0) ∧ (parked.pool.seg 0).owner = .hostSide ∧
    (parked.pool.seg 0).tag = some 1 ∧ [(0 : SegId)][256 / 256]? = none := by decide +kernel

/-- An entry that waits ENDED for a full queue, and its record. -/
def waiting : State :=
  let s := withRecords (act.holding { mkOrder 1 .pointRead .ended with progress := 8, result := some .done }) 32
  { s with table := { s.table with backlog := [rec0] } }

theorem test_orderEnd_hyps :
    inFlight.table.find 1 = some (mkOrder 1 .bulkFetch .active) ∧ inFlight.table.backlog = [] ∧
    inFlight.trunks[trunkOf 0].state ≠ .disabled ∧ inFlight.completions.records.length < 32 ∧
    32 ≤ (withRecords inFlight 32).completions.records.length ∧ waiting.table.backlog ≠ [] ∧
    32 ≤ waiting.completions.records.length ∧ (withRecords inFlight 31).completions.records.length < 32 := by
  decide +kernel

theorem test_take_hyps : waiting.serves ∧ waiting.OrdersInv ∧ waiting.table.backlog.take (min 1 (32 - 31)) = [rec0] := by
  refine ⟨by decide +kernel, ⟨?_, ?_, ?_, ?_, ?_, ?_, ?_, ?_, fun t x tag h => ?_⟩, by decide +kernel⟩
  case refine_9 =>
    have e : ∀ t : TrunkId, waiting.engines[t].exch = none := by decide +kernel
    exact absurd ((e t).symm.trans h) nofun
  all_goals decide +kernel

/-! ## Witnesses: nodes and trunks -/

theorem test_node_hyps :
    (rdy.node0 .disabled).nodes[(0 : NodeId)].state = .disabled ∧ (rdy.node0 .isolated).nodes[(0 : NodeId)].state = .isolated ∧
    (inFlight.table.queue 0).head? = some 1 ∧ (mkOrder 1 .bulkFetch .active).node = 0 ∧
    (rdy.node0 .disabled).serves := by decide +kernel

def trunkPayloadMax : List Byte := [2, 3, 255, 15, 3, 7, 8, 15, 7, 15, 1, 15]

theorem test_setTrunk_hyps :
    trunkPayloadMax.length = 12 ∧ byteAt trunkPayloadMax 0 = byteOf (2 : TrunkId).val ∧
    (byteAt trunkPayloadMax 8).toNat ≤ 7 ∧ (trunksIn .disabled .none).trunks[(2 : TrunkId)].state = .disabled ∧
    configFieldsOk trunkPayloadMax = true ∧ configFieldsOk [0, 0, 5, 1, 0, 1, 1, 2, 0, 0, 0, 0] = true ∧
    configFieldsOk [0, 0, 4, 1, 0, 1, 1, 2, 0, 0, 0, 0] = false ∧ configFieldsOk [0, 0, 5, 1, 0, 1, 1, 2, 8, 0, 0, 0] = false := by
  decide +kernel

theorem test_trunk_hyps :
    (∀ st ∈ [TrunkState.disabled, .active, .quiet, .stopping, .down], (trunksIn st .none).trunks[(0 : TrunkId)].state = st ∧
      (trunksIn st .none).serves) ∧
    inFlight.engines[(0 : TrunkId)].exch ≠ none ∧ act.engines[(0 : TrunkId)].exch = none ∧
    (63#8).toNat ≤ 63 ∧ act.trunks[(0 : TrunkId)].mode = 63 ∧ (1 : BitVec 6) ≠ 63 := by decide +kernel

/-! ## Witnesses: intervals and the tick -/

def report0 : Report := ⟨0, .active, false, false, false, 0, 0, 0, 0, 100, .zero⟩

theorem test_report_hyps :
    (let s : State := { rdy with meters := Vector.replicate 3 { Meter.reset with ring := [report0, report0, report0, report0] } }
     s.serves ∧ s.meters[(0 : TrunkId)].ring[(3#8).toNat]? = some report0) ∧
    rdy.meters[(0 : TrunkId)].ring.length < (0#8).toNat + 1 := by decide +kernel

/-- A READY part at this position of its interval of 100 ticks, with these claims. -/
def at_ (tick : Word) (position : Nat) (claims : List TickClaim) : State :=
  { act with interval := ⟨tick, 100, none, position⟩, claims := claims }

theorem test_intervalEnd_hyps :
    TickClaim.intervalEnd ∉ (at_ 7 99 []).claims ∧ TickClaim.intervalEnd ∈ (at_ 7 99 [.intervalEnd]).claims ∧
    (at_ 7 99 []).interval.length ≤ (at_ 7 99 []).interval.position + 1 ∧
    (at_ 7 98 []).interval.position + 1 < (at_ 7 98 []).interval.length := by decide +kernel

/-- The classes of R158 at their bounds. -/
theorem test_faultClass_bounds :
    ([0, 1, 2, 5, 6, 20, 21, 100, 101].map fun n => faultClass { Counters.zero with broken := n }) =
      [0, 1, 2, 2, 3, 3, 4, 4, 5] := by decide

/-- The severe count that reaches the degrade limit, and an interval end that no trunk reports. -/
theorem test_intervalClose_hyps :
    (let s : State := { act with
      meters := Vector.replicate 3 { Meter.reset with counts := { Counters.zero with noStart := 21 } }
      trunks := Vector.replicate 3 ⟨.active, .none, { TrunkConfig.default with degradeLimit := 1 }, 63, 0, false⟩ }
     severeAfter (faultClass s.meters[(0 : TrunkId)].counts) s.meters[(0 : TrunkId)].severe = 1 ∧
       s.trunks[(0 : TrunkId)].config.degradeLimit = 1 ∧ s.trunks[(0 : TrunkId)].state ≠ .disabled) ∧
    (∀ t : TrunkId, rdy.trunks[t].state = .disabled) := by decide +kernel

theorem test_tick_hyps : rdy.startUp.part = .ready ∧ starting.startUp.part ≠ .ready := by decide +kernel

/-- An order of tag 2 at its deadline behind the void claim of tag 1, and one of tag 1 before the claim of tag 2. -/
theorem test_claims_hyps :
    (let s := (at_ 9 0 [.backoff 3, .expiry 1, .expiry 2]).holding { mkOrder 2 .pointRead .queued with deadline := some 9 }
     s.claims = [.backoff 3, .expiry 1] ++ .expiry 2 :: [] ∧ s.table.find 1 = none ∧
       s.table.find 2 = some { mkOrder 2 .pointRead .queued with deadline := some 9 } ∧
       some (s.interval.tick - 0).toNat = some 9 ∧ s.nextExpiry = some (.expiry 2)) ∧
    (let s := (at_ 9 0 [.backoff 3, .expiry 1, .expiry 2]).holding { mkOrder 1 .pointRead .queued with deadline := some 9 }
     s.claims = [.backoff 3] ++ .expiry 1 :: [.expiry 2] ∧ TickClaim.expiry 2 ∉ [TickClaim.backoff 3] ∧
       s.nextExpiry = some (.expiry 1)) ∧
    (let s : State := { at_ 9 0 [.backoff 3] with nodeScheds := Vector.replicate 24 ⟨some 8, true, false⟩ }
     TickClaim.backoff 3 ∈ s.claims ∧ s.nodeScheds[(3 : NodeId)].expiry = some (s.interval.tick - 1)) ∧
    (let s := at_ 20 0 [.poll 3]
     TickClaim.poll 3 ∈ s.claims ∧ s.nodeScheds[(3 : NodeId)].pollDue = false ∧
       1 * s.trunks[trunkOf 3].config.pollPeriod ≤ (s.interval.tick - s.nodes[(3 : NodeId)].lastExchange).toNat) ∧
    (let s := withRecords (at_ 5 0 [.headAged]) 1
     TickClaim.headAged ∈ s.claims ∧ s.completions.records = [⟨rec0, 0⟩] ∧ s.completions.ageLimit ≠ 0 ∧
       s.completions.ageLimit ≤ (s.interval.tick - 0).toNat) := by decide +kernel

/-! ## Witnesses: trunk exchanges -/

theorem test_frameSent_hyps :
    (let s := act.engine0 .sending (some (mkExch (some 0) none .poll)) [] false
     s.startUp.part = .ready ∧ s.engines[(0 : TrunkId)].phase = .sending ∧
       s.engines[(0 : TrunkId)].exch = some (mkExch (some 0) none .poll)) ∧
    (let s := (trunksIn .stopping .none).engine0 .sending (some (mkExch none none .announce)) [] false
     s.trunks[(0 : TrunkId)].state = .stopping ∧ s.engines[(0 : TrunkId)].exch = some (mkExch none none .announce)) := by
  decide +kernel

theorem test_attempt_hyps :
    inFlight.startUp.part = .ready ∧ inFlight.engines[(0 : TrunkId)].phase = .awaiting ∧
    inFlight.engines[(0 : TrunkId)].rxFault = false ∧
    (let s := act.engine0 .receiving (some (mkExch (some 0) none .poll)) [0x69] false
     s.engines[(0 : TrunkId)].phase = .receiving ∧ s.engines[(0 : TrunkId)].rxFault = false) ∧
    (let s := act.engine0 .receiving (some (mkExch (some 0) none .poll)) [0x68] true
     s.engines[(0 : TrunkId)].phase = .receiving ∧ s.engines[(0 : TrunkId)].rxFault = true) := by decide +kernel

/-- An ACK of node 0 to a poll, its last byte still to come; the byte at place 8 completes it. -/
def ackFrame : List Byte := 0x69 :: ([1, 1, 0, 0, 0] ++ leWord (trunkCheck [1, 1, 0, 0, 0]))

theorem test_trunkByte_hyps :
    (let s := act.engine0 .receiving (some (mkExch (some 0) none .poll)) ackFrame.dropLast false
     let bs := s.engines[(0 : TrunkId)].rx ++ [lastOf ackFrame]
     6 ≤ bs.length ∧ bs.length = 8 + pairAt bs 4 ∧
       classify (mkExch (some 0) none .poll) 0 bs = .good ⟨.ack, 0, []⟩ ∧
       classify (mkExch (some 1) none .poll) 0 bs = .stray) ∧
    (let bs := ackFrame.dropLast
     ¬ (6 ≤ bs.length ∧ bs.length = 8 + pairAt bs 4)) := by decide +kernel

/-- A framing error on the byte that completes the reply: the attempt is BROKEN at once and its retry is due. -/
theorem test_trunkByte_framing_error_at_the_end :
    ∃ s, exec (.trunkByteReceived 0 (lastOf ackFrame) true)
        (act.engine0 .receiving (some (mkExch (some 0) none .poll)) ackFrame.dropLast false) = .next s ∧
      s.engines[(0 : TrunkId)].phase = .guard ∧
      s.engines[(0 : TrunkId)].exch = some { mkExch (some 0) none .poll with attempts := 1, broken := 1 } :=
  ⟨_, rfl, by decide +kernel, by decide +kernel⟩

theorem test_classify_hyps :
    ackFrame.length = 8 + pairAt ackFrame 4 ∧ byteAt ackFrame 0 = 0x69 ∧ pairAt ackFrame 4 ≤ 260 ∧
    trunkCheck ((ackFrame.drop 1).take 5) = byteAt ackFrame 7 ++ byteAt ackFrame 6 ∧ byteAt ackFrame 1 = byteOf (0 % 8 + 1) ∧
    (byteAt ackFrame 2).getLsbD 3 = false ∧ (byteAt ackFrame 3).toNat ≤ 127 ∧ (byteAt ackFrame 2).toNat % 4 = 1 ∧
    ackFits .poll 0 0 ∧ ackFits .fetchBlock 256 256 ∧ ¬ ackFits .get 2 1 := by
  decide +kernel

/-- The third failure isolates, the second does not; the entry of node 0 is renewed and a quiet trunk wakes. -/
theorem test_exchangeEnd_hyps :
    (let s : State := { act with nodes := Vector.replicate 24 ⟨.online, false, 2, 0, 0⟩ }
     min 7 (s.nodes[(0 : NodeId)].consecutive + 1) = 3 ∧ s.trunks[trunkOf 0].config.isolation = 3) ∧
    (∃ a ∈ [AttentionEntry.mk 0 5 0 true false], a.node = 0) ∧ (∀ a ∈ [AttentionEntry.mk 1 5 0 true false], a.node ≠ 0) ∧
    (trunksIn .quiet .none).trunks[trunkOf 0].state = .quiet ∧ (trunksIn .stopping .none).trunks[(0 : TrunkId)].state = .stopping ∧
    (act.holding (mkOrder 1 .pointRead .queued)).table.find 1 = some (mkOrder 1 .pointRead .queued) ∧
    inFlight.table.find 1 = some (mkOrder 1 .bulkFetch .active) ∧ act.table.find 1 = none := by decide +kernel

theorem test_orderOutcome_hyps :
    (mkExch (some 0) (some 1) .fetchBlock).order = some 1 ∧ inFlight.table.find 1 = some (mkOrder 1 .bulkFetch .active) ∧
    (∀ k ∈ [OrderKind.pointRead, .pointWrite, .bulkSend, .echoTest, .nodeReset],
      (act.holding { mkOrder 1 k .active with chain := [0] }).table.find 1 = some { mkOrder 1 k .active with chain := [0] }) ∧
    8 ≤ 7 + 1 ∧ 6 + 1 < 8 := by decide +kernel

/-- The first and the second landing segment of a fetch of 300 bytes, whose ACKs carry 256 and 44. -/
theorem test_landing_hyps :
    (∀ progress ∈ [0, 256],
      let o := { mkOrder 1 .bulkFetch .active with length := 300, progress := progress, chain := [1, 0] }
      let s := { act.holding o with pool := { act.pool with
        segs := (act.pool.segs.set 0 (seg0 .trunkSide 1 0)).set 1
          (if progress = 0 then seg0 .trunkSide 1 0 else seg0 .hostSide 1 256) } }
      s.table.find 1 = some o ∧ o.progress % 256 = 0 ∧ Memory.wf s.pool.mem ∧
        ∃ g, o.chain[o.progress / 256]? = some g ∧ s.pool.seg g = ⟨.trunkSide, some 1, 0⟩) ∧
    (List.replicate 256 (0 : Byte)).length ≤ 256 ∧ (List.replicate 44 (0 : Byte)).length < 256 := by decide +kernel

/-- A guard with a retry due, one within a burst, and one whose burst limit is reached. -/
def inBurst (burst : Nat) : State :=
  let s := (act.holding { mkOrder 1 .bulkFetch .active with chain := [0] }).queued [1]
  { s with engines := s.engines.set 0 ⟨.guard, none, some ⟨.order, some 0, some 1, burst, true⟩, [], false, 2⟩ }

theorem test_guardEnd_hyps :
    (inBurst 1).burstContinues 0 0 { mkOrder 1 .bulkFetch .active with chain := [0] } 1 ∧
    ¬ (inBurst 2).burstContinues 0 0 { mkOrder 1 .bulkFetch .active with chain := [0] } 2 ∧
    (inBurst 2).engines[(0 : TrunkId)].phase = .guard ∧ (inBurst 2).engines[(0 : TrunkId)].exch = none ∧
    (act.engine0 .guard (some (mkExch (some 0) none .poll)) [] false).engines[(0 : TrunkId)].exch ≠ none := by decide +kernel

theorem test_exchangeStarts_hyps :
    inFlight.table.find (mkOrder 1 .bulkFetch .active).tag = some (mkOrder 1 .bulkFetch .active) ∧
    (mkOrder 1 .bulkFetch .active).node = 0 ∧
    (let s : State := inFlight.setHeld 0 (some ⟨1, .fetchBlock, true, false, 63, 1, 1⟩)
     s.held[(0 : NodeId)] = some ⟨1, .fetchBlock, true, false, 63, 1, 1⟩) := by decide +kernel

/-- A free trunk without a candidate, with a poll, with a queued head, and with an announce pending. -/
theorem test_trunkFree_hyps :
    (act.isFree 0 = true ∧ act.groupServed 0 = none) ∧
    (let s : State := { act with nodeScheds := Vector.replicate 24 ⟨none, false, true⟩ }
     s.isFree 0 = true ∧ s.candidate .poll 0 = true ∧ s.groupServed 0 = some .poll) ∧
    (let s := (act.holding (mkOrder 1 .pointRead .queued)).queued [1]
     s.isFree 0 = true ∧ s.candidate .routine 0 = true ∧ s.groupServed 0 = some .routine) ∧
    (let s := act.modSched 0 fun c => { c with announce := true }
     s.groupServed 0 = some .announce) ∧ (trunksIn .active .settle).isFree 0 = false := by decide +kernel

/-! ## Witnesses: supplies -/

def supply (st : TrunkState) (w : WaitIndication) (m : SupplyMonitor) : State :=
  { trunksIn st w with supplies := Vector.replicate 3 m }

theorem test_supply_hyps :
    act.supplies[(0 : TrunkId)].senseGood ≠ false ∧ act.supplies[(0 : TrunkId)].power = true ∧
    rdy.supplies[(0 : TrunkId)].senseGood ≠ true ∧ rdy.supplies[(0 : TrunkId)].power = false ∧
    (let s := supply .active .settle ⟨true, true, false, false, true, false⟩
     s.supplies[(0 : TrunkId)].settleTimer = true ∧ s.trunks[(0 : TrunkId)].wait = .settle) ∧
    (let s := supply .down .recovery ⟨true, true, false, false, false, true⟩
     s.supplies[(0 : TrunkId)].recoveryTimer = true ∧ s.trunks[(0 : TrunkId)].state = .down) ∧
    (∀ st ∈ [TrunkState.active, .quiet, .stopping], (supply st .none ⟨true, false, true, true, false, false⟩).supplies[(0 : TrunkId)].faultFilter = true) := by
  decide +kernel

/-! ## Witnesses: the invariants -/

/-- The state after reset meets every invariant that a step is shown to keep. -/
theorem test_invariants_hyps :
    State.reset.postingInv ∧ State.reset.noticesInv ∧ State.reset.memoryInv ∧ State.reset.trunkInv ∧
    State.reset.hostLineInv ∧ State.reset.queueInv :=
  ⟨by decide +kernel, by decide +kernel, by decide +kernel, by decide +kernel, by decide +kernel, by decide +kernel⟩

theorem test_noExchange_at_reset : ∀ t : TrunkId, State.reset.engines[t].exch = none ∧ State.reset.engines[t].grant = none := by
  decide +kernel

theorem test_ordersInv_hyp : State.reset.OrdersInv := by
  refine ⟨?_, ?_, ?_, ?_, ?_, ?_, ?_, ?_, fun t x tag h => ?_⟩
  case refine_9 => exact absurd ((test_noExchange_at_reset t).1.symm.trans h) nofun
  all_goals decide +kernel

theorem test_exchangesInv_hyp : State.reset.ExchangesInv where
  ownTrunk t x n h := absurd ((test_noExchange_at_reset t).1.symm.trans h) nofun
  ofOrder t x o h := absurd ((test_noExchange_at_reset t).1.symm.trans h) nofun
  granted t g n h := absurd ((test_noExchange_at_reset t).2.symm.trans h) nofun
  heldHead n h hh := by
    have : ∀ n : NodeId, State.reset.held[n] = none := by decide +kernel
    exact absurd ((this n).symm.trans hh) nofun

theorem test_chainsInv_hyp : State.reset.ChainsInv := by
  have none_live : State.reset.table.live = [] := by decide +kernel
  refine ⟨?_, ?_, ?_, ?_, ?_, ?_, ?_, fun o h => absurd (none_live ▸ h) nofun, ?_, ?_⟩ <;> decide +kernel

theorem test_freeListInv_hyp : State.reset.freeListInv := by decide +kernel

theorem test_quietInv_hyp : State.reset.quietInv :=
  fun _ => ⟨by decide +kernel, by decide +kernel, by decide +kernel⟩

theorem test_intervalInv_hyp : State.reset.intervalInv :=
  ⟨by decide, by decide, by decide, fun _ h => absurd (show none = some _ from h) (by simp), fun _ => ⟨rfl, rfl⟩⟩

end Sys2Proof.Tests
end

section
/-! PROOFS. Attention and notices (chapter 8): READ_ATTENTION (R139), CLEAR_ATTENTION (R140) and CLEAR_NOTICES (R146). -/

namespace Sys2Proof.Machine

open Sys2Proof

/-! ## An accepted request -/

/-- The reply fixed for an accepted request of any kind but RESET_PART, the one kind a reset follows (R171, R174). -/
theorem acceptWith_fixed {kind : Byte} (hk : kind ≠ 0x03) (r : List Byte) (t : State) :
    (acceptWith r t).fixed kind = t.withReply kind .accepted r false := by
  have noReset : (decide (kind = 0x03) && decide (OutcomeCode.accepted = .accepted)) = false := by rw [decide_eq_false hk]; rfl
  unfold Answer.fixed acceptWith
  rw [noReset]
  rfl

/-- A served request that its rule accepts leaves the state of its effect with the reply fixed. -/
theorem exec_accepted {mk : List Byte → Instr} {kind : Byte} {req : Request} {p r : List Byte} {s t : State} (hs : s.serves)
    (hp : p.length ≤ 200) (hmk : exec (mk p) s = .next (deliver kind req p s)) (hk : kind ≠ 0x03)
    (hreq : req p (s.taken kind p) = acceptWith r t) : exec (mk p) s = .next (t.withReply kind .accepted r false) := by
  rw [exec_served hs hp hmk, hreq, acceptWith_fixed hk]

/-! ## The commands as requests -/

theorem exec_readAttention (p : List Byte) (s : State) :
    exec (.readAttention p) s = .next (deliver 0x1C reqReadAttention p s) := rfl

theorem exec_clearAttention (p : List Byte) (s : State) :
    exec (.clearAttention p) s = .next (deliver 0x1D reqClearAttention p s) := rfl

theorem exec_clearNotices (p : List Byte) (s : State) :
    exec (.clearNotices p) s = .next (deliver 0x09 reqClearNotices p s) := rfl

/-! ## The Attention List -/

/-- The ATTENTION level taken anew is its flag, bit 1, given the list's level (R142, R144). -/
theorem takeAttentionLevel_eq_levelSet (s : State) : s.takeAttentionLevel = s.levelSet 0x0002 (attentionLevel s.attention) := rfl

theorem AttentionEntry.encode_eq (e : AttentionEntry) :
    e.encode = [byteOf e.node.val, e.code, byteOf e.repeats, (if e.seen then 1 else 0) ||| (if e.renewed then 2 else 0)] := by
  rcases e with ⟨node, code, repeats, seen, _ | _⟩ <;> rfl

/-- After a read no entry is left unseen, so the level is false. -/
@[simp] theorem attentionLevel_map_read (l : List AttentionEntry) : attentionLevel (l.map AttentionEntry.read) = false := by
  simp [attentionLevel, AttentionEntry.read]

/-- Every entry that stays is unseen, so the level is true when one stays. -/
@[simp] theorem attentionLevel_clearAttentionList (l : List AttentionEntry) :
    attentionLevel (clearAttentionList l) = !(clearAttentionList l).isEmpty := by
  have level_unseen (m : List AttentionEntry) :
      attentionLevel (m.map fun e => { e with seen := false }) = !(m.map fun e => { e with seen := false }).isEmpty := by
    cases m <;> simp [attentionLevel]
  exact level_unseen _

/-- The entries removed are those that are not kept. -/
theorem length_filter_cleared (l : List AttentionEntry) :
    (l.filter AttentionEntry.cleared).length = l.length - (clearAttentionList l).length := by
  have parted := l.length_eq_length_filter_add AttentionEntry.cleared
  have kept : (clearAttentionList l).length = (l.filter fun e => !e.cleared).length := List.length_map _
  omega

/-- READ_ATTENTION of a READY part (R139). -/
theorem reqReadAttention_taken {s : State} (hs : s.serves) :
    reqReadAttention [] (s.taken 0x1C []) = acceptWith (attentionPayload s.attention)
      ({ s.taken 0x1C [] with attention := s.attention.map AttentionEntry.read }).takeAttentionLevel :=
  checked_pass rfl rfl (gateReady_taken hs _ _)

/-- CLEAR_ATTENTION of a READY part (R140). -/
theorem reqClearAttention_taken {s : State} (hs : s.serves) :
    reqClearAttention [] (s.taken 0x1D []) = acceptWith
      [byteOf (s.attention.filter AttentionEntry.cleared).length, byteOf (clearAttentionList s.attention).length]
      ({ s.taken 0x1D [] with attention := clearAttentionList s.attention }).takeAttentionLevel :=
  checked_pass rfl rfl (gateReady_taken hs _ _)

/-- Settles O27: the refusals are the shared checks, and the read leaves the level of a list whose every entry is seen. -/
theorem readAttentionEffect : Obligations.ReadAttentionEffect := by
  refine ⟨refusesBadForms_of exec_readAttention (fun _ _ => ⟨_, rfl⟩) (fun _ => List.isEmpty_iff) (fun _ _ => by simp),
    fun s hs => ?_⟩
  rw [exec_accepted hs (by simp) (exec_readAttention [] s) (by decide) (reqReadAttention_taken hs),
    takeAttentionLevel_eq_levelSet, attentionLevel_map_read, attentionPayload, funext AttentionEntry.encode_eq]
  rfl

/-- Settles O28: the refusals are the shared checks, what is removed is what is not kept, and the level is that of a list
whose every entry is unseen. -/
theorem clearAttentionEffect : Obligations.ClearAttentionEffect := by
  refine ⟨refusesBadForms_of exec_clearAttention (fun _ _ => ⟨_, rfl⟩) (fun _ => List.isEmpty_iff) (fun _ _ => by simp),
    fun s hs => ?_⟩
  rw [exec_accepted hs (by simp) (exec_clearAttention [] s) (by decide) (reqClearAttention_taken hs),
    takeAttentionLevel_eq_levelSet, attentionLevel_clearAttentionList, length_filter_cleared]
  rfl

/-! ## The Notice Unit -/

/-- The latched flags are the bits 2 to 8 (8.3). -/
theorem getLsbD_latchedFlags (i : Nat) : latchedFlags.getLsbD i = decide (2 ≤ i ∧ i ≤ 8) := by
  by_cases h : i < 16
  · have inWord : ∀ j : Fin 16, latchedFlags.getLsbD j = decide (2 ≤ j.val ∧ j.val ≤ 8) := by decide
    exact inWord ⟨i, h⟩
  · rw [BitVec.getLsbD_of_ge _ _ (by omega), eq_comm, decide_eq_false_iff_not]
    omega

/-- Clearing the selected latched flags, bit by bit (R146). -/
theorem getLsbD_clear_latched (flags selected : Word) (i : Nat) :
    (flags &&& ~~~(latchedFlags &&& selected)).getLsbD i =
      (flags.getLsbD i && !(decide (2 ≤ i ∧ i ≤ 8) && selected.getLsbD i)) := by
  rw [BitVec.getLsbD_and, BitVec.getLsbD_not, BitVec.getLsbD_and, getLsbD_latchedFlags]
  by_cases h : i < 16
  · simp [h]
  · simp [BitVec.getLsbD_of_ge flags i (by omega)]

/-- No position of bits 9 to 15 is named exactly when the high byte holds no bit above bit 8 (8.3). -/
theorem append_and_unusedFlags_eq_zero (hi lo : Byte) : (hi ++ lo) &&& unusedFlags = 0 ↔ hi.toNat < 2 := by
  have masked : (hi ++ lo) &&& unusedFlags = (hi &&& 0xFE#8) ++ 0#8 := by
    have bytes : unusedFlags = 0xFE#8 ++ 0#8 := rfl
    rw [bytes, BitVec.and_append, BitVec.and_zero]
  have high : ∀ b : Byte, b &&& 0xFE#8 = 0 ↔ b.toNat < 2 := by decide
  rw [masked, ← high]
  refine ⟨fun h => ?_, fun h => by rw [h]; rfl⟩
  calc hi &&& 0xFE#8
    _ = BitVec.extractLsb' 8 8 ((hi &&& 0xFE#8) ++ 0#8) := BitVec.extractLsb'_append_eq_left.symm
    _ = 0 := by rw [h]; rfl

/-- The fault-seen flags of the trunks A, B, C are the bits 0, 1, 2 of their byte. -/
theorem trunkBits_eq_sum (a b c : Bool) :
    trunkBits a b c = byteOf ((if a then 1 else 0) + (if b then 2 else 0) + (if c then 4 else 0)) := by
  revert a b c
  decide

/-! ## CLEAR_NOTICES -/

/-- The Notice Unit after a CLEAR_NOTICES of this selection: the selected latched flags fall, and the fault-seen flags of all
trunks where TRUNK_DOWN is selected (R146). -/
def NoticeUnit.cleared (selected : Word) (n : NoticeUnit) : NoticeUnit :=
  { n with
    flags := n.flags &&& ~~~(latchedFlags &&& selected)
    faultSeen := if selected.getLsbD 3 then Vector.replicate 3 false else n.faultSeen }

/-- The state after a CLEAR_NOTICES of this selection: the line error count falls to 0 where LINE_ERROR is selected (R146). -/
def State.noticesCleared (selected : Word) (s : State) : State :=
  ({ s with hostLine := { s.hostLine with
      errorCount := if selected.getLsbD 7 then 0 else s.hostLine.errorCount } }).withNotices (NoticeUnit.cleared selected)

/-- The rule of CLEAR_NOTICES: the checks, then the reply of what stood before and the cleared state (R146). -/
theorem reqClearNotices_eq (p : List Byte) (s : State) : reqClearNotices p s =
    checked gateReady (decide (p.length = 2)) (decide (wordAt p 0 &&& unusedFlags = 0))
      (fun s => acceptWith (clearNoticesPayload s) (s.noticesCleared (wordAt p 0))) s := by
  have effect (s : State) :
      (if (wordAt p 0).getLsbD 7 then s.modHostLine fun h => { h with errorCount := 0 } else s).withNotices
        (NoticeUnit.cleared (wordAt p 0)) = s.noticesCleared (wordAt p 0) := by
    unfold State.noticesCleared
    cases (wordAt p 0).getLsbD 7 <;> rfl
  simp only [← effect]
  rfl

/-- CLEAR_NOTICES of a READY part whose selection names no position without a flag (R146). -/
theorem reqClearNotices_taken {lo hi : Byte} {s : State} (hs : s.serves) (hhi : hi.toNat < 2) :
    reqClearNotices [lo, hi] (s.taken 0x09 [lo, hi]) =
      acceptWith (clearNoticesPayload s) ((s.taken 0x09 [lo, hi]).noticesCleared (hi ++ lo)) := by
  rw [reqClearNotices_eq]
  exact checked_pass rfl (decide_eq_true ((append_and_unusedFlags_eq_zero hi lo).2 hhi)) (gateReady_taken hs _ _)

theorem NoticeUnit.cleared_faultSeen (selected : Word) (n : NoticeUnit) (t : TrunkId) :
    (n.cleared selected).faultSeen[t] = (n.faultSeen[t] && !selected.getLsbD 3) := by
  unfold NoticeUnit.cleared
  cases selected.getLsbD 3 <;> simp

/-- ATTN of a READY part after a CLEAR_NOTICES: from the flags that are left and the mask (R148). -/
theorem noticesCleared_attn {s : State} (h : s.startUp.part = .ready) (selected : Word) :
    (s.noticesCleared selected).notices.attn =
      decide (s.notices.flags &&& ~~~(latchedFlags &&& selected) &&& s.notices.mask ≠ 0) := by
  have level : (s.noticesCleared selected).notices.attn = attnLevel s.startUp.part (s.notices.cleared selected) := rfl
  rw [level, attnLevel, decide_eq_true h, Bool.true_and]
  rfl

/-- The CLEAR_NOTICES reply, byte by byte (8.4). -/
theorem clearNoticesPayload_eq (s : State) : clearNoticesPayload s =
    [s.notices.flags.setWidth 8, (s.notices.flags >>> 8).setWidth 8,
     byteOf ((if s.notices.faultSeen[0] then 1 else 0) + (if s.notices.faultSeen[1] then 2 else 0) +
       (if s.notices.faultSeen[2] then 4 else 0)),
     byteOf s.hostLine.errorCount] := by
  rw [clearNoticesPayload, trunkBits_eq_sum]
  rfl

/-- CLEAR_NOTICES is refused by the shared checks: 2 bytes, and no bit of 9 to 15. -/
theorem clearNotices_refusesBadForms :
    RefusesBadForms .clearNotices 0x09 (fun p => p.length = 2) (fun p => (byteAt p 1).toNat < 2) :=
  refusesBadForms_of (l := fun p => decide (p.length = 2)) (f := fun p => decide (wordAt p 0 &&& unusedFlags = 0))
    exec_clearNotices (fun p s => ⟨_, reqClearNotices_eq p s⟩) (fun _ => decide_eq_true_iff)
    (fun _ _ => decide_eq_true_iff.trans (append_and_unusedFlags_eq_zero _ _))

/-- Settles O15: the refusals are the shared checks, and the next state is the cleared one with its reply fixed. -/
theorem clearNoticesEffect : Obligations.ClearNoticesEffect := by
  refine ⟨clearNotices_refusesBadForms, fun lo hi s hs hhi => ?_⟩
  have accepted := exec_accepted hs (by simp) (exec_clearNotices [lo, hi] s) (by decide)
    (reqClearNotices_taken hs hhi)
  rw [clearNoticesPayload_eq] at accepted
  exact ⟨_, getLsbD_clear_latched s.notices.flags (hi ++ lo), _, accepted, rfl, rfl,
    NoticeUnit.cleared_faultSeen (hi ++ lo) s.notices, noticesCleared_attn hs.1 (hi ++ lo), rfl, rfl⟩

end Sys2Proof.Machine
end

section
/-! PROOFS. The host line (chapter 10): READ_IDENTITY (R175, R180). -/

namespace Sys2Proof.Machine

open Sys2Proof

/-! ## READ_IDENTITY against the state in which its frame has been taken -/

theorem exec_readIdentity (p : List Byte) (s : State) :
    exec (.readIdentity p) s = .next (deliver 0x01 reqReadIdentity p s) := rfl

/-- The part-state check of READ_IDENTITY and RESET_PART passes in READY and in FAILED (R180). -/
theorem gateIdentity_eq_none {part : PartState} (h : part = .ready ∨ part = .failed) : gateIdentity part = none := by
  rcases h with rfl | rfl <;> rfl

/-- A READ_IDENTITY with a payload fails the length check (R175). -/
theorem reqReadIdentity_of_ne_nil {p : List Byte} (h : p ≠ []) (s : State) : reqReadIdentity p s = refuse .badLength s := by
  rw [reqReadIdentity, List.isEmpty_eq_false_iff.2 h, checked_badLength]

/-- A part that is STARTING refuses READ_IDENTITY at the part-state check (R180). -/
theorem reqReadIdentity_starting {s : State} (h : s.startUp.part = .starting) :
    reqReadIdentity [] s = refuse .starting s :=
  checked_gate rfl rfl (congrArg gateIdentity h)

/-- A READY or FAILED part answers READ_IDENTITY with the fixed bytes and changes nothing (R175, R180). -/
theorem reqReadIdentity_accepted {s : State} (h : s.startUp.part = .ready ∨ s.startUp.part = .failed) :
    reqReadIdentity [] s = acceptWith identityPayload s :=
  checked_pass rfl rfl (gateIdentity_eq_none h)

/-- Settles O8: the length check, the part-state check and the acceptance in turn, each against the state in which the frame
has been taken, whose part state is the one before. -/
theorem readIdentityAnswer : Obligations.ReadIdentityAnswer := by
  intro p s hs hp
  rw [exec_readIdentity, deliver_heard hs _ _ hp]
  refine ⟨fun hne => ?badLength, ?starting, ?accepted⟩
  case badLength =>
    rw [reqReadIdentity_of_ne_nil hne, refuse_fixed _ _ _ _ (by decide)]
  case starting =>
    rintro rfl hpart
    rw [reqReadIdentity_starting (s := s.taken 0x01 []) hpart, refuse_fixed _ _ _ _ (by decide)]
  case accepted =>
    rintro rfl hpart
    rw [reqReadIdentity_accepted (s := s.taken 0x01 []) hpart, acceptWith_fixed (by decide)]
    rfl

end Sys2Proof.Machine
end

section
/-! PROOFS. What a step can do, said once: every command is a chain of moves, and what every move keeps every step keeps. -/

namespace Sys2Proof.Machine

open Sys2Proof

/-! ## The moves -/

/-- A change of the Notice Unit that keeps the two level flags, and the unused positions of flags and mask at zero (8.3). -/
structure LevelKeeping (f : NoticeUnit → NoticeUnit) : Prop where
  completions : ∀ n, (f n).flags.getLsbD 0 = n.flags.getLsbD 0
  attention : ∀ n, (f n).flags.getLsbD 1 = n.flags.getLsbD 1
  flags : ∀ n, n.flags &&& 0xFE00 = 0 → (f n).flags &&& 0xFE00 = 0
  mask : ∀ n, n.mask &&& 0xFE00 = 0 → (f n).mask &&& 0xFE00 = 0

/-- The interval in its range, with any pending length in range (R152, R153). -/
def IntervalUnit.inRange (i : IntervalUnit) : Prop :=
  100 ≤ i.length ∧ i.length ≤ 6000 ∧ i.position < i.length ∧ ∀ n, i.pendingLength = some n → 100 ≤ n ∧ n ≤ 6000

/-- A trunk that may take a grant by its state (R77). -/
abbrev State.inService (s : State) (t : TrunkId) : Prop := s.trunks[t].state = .active ∨ s.trunks[t].state = .quiet

/-- An exchange that differs from another in its attempts alone. -/
def Exchange.SameAs (x y : Exchange) : Prop := x.node = y.node ∧ x.type = y.type ∧ x.order = y.order

/-- A change of one engine that is no end of an exchange: what is in flight stays, or an exchange without an order starts on a
trunk in service, or an ANNOUNCE ends on a trunk that is not STOPPING (R52, R53, R59, R112). -/
structure EngineChange (s : State) (t : TrunkId) (e : Engine) : Prop where
  exch : (∃ x y, e.exch = some x ∧ s.engines[t].exch = some y ∧ x.SameAs y) ∨
    (∃ x, e.exch = some x ∧ x.order = none ∧ (∀ n, x.node = some n → trunkOf n = t) ∧ s.inService t) ∨
    (e.exch = none ∧ (s.engines[t].exch = none ∨ s.trunks[t].state ≠ .stopping))
  idle : e.phase = .idle → e.exch = none
  grant : ∀ g n, e.grant = some g → g.node = some n → trunkOf n = t ∨ ∃ g', s.engines[t].grant = some g' ∧ g'.node = some n

/-- What an accepted SUBMIT_ORDER does before the trunk-free event (R6, R31). -/
def submitPlaced (o : Order) (s : State) : State :=
  let k := if o.kind.isBulk then segmentsFor o.length else 0
  let o := { o with chain := s.pool.freeList.take k }
  let owner := if o.kind = .bulkSend then Owner.hostSide else Owner.trunkSide
  let s := if o.kind.isBulk then s.modPool (SegmentPool.allocate k o.tag owner) else s
  let s := s.modTable (OrderTable.add o)
  if o.kind = .bulkSend then s else s.enterQueued o.tag

/-- What an accepted COMMIT_ORDER does before the trunk-free event (R20, R38). -/
def commitPlaced (o : Order) (s : State) : State :=
  (s.modPool fun p => o.chain.foldl (fun p g => p.setOwner .trunkSide g) p).enterQueued o.tag

/-- The changes of a part in service, each whole in what the invariants speak of. -/
inductive Service : State → State → Prop
  /-- Node records, node schedules, meters and claims. -/
  | aside (s : State) (nodes : Vector NodeRecord 24) (nodeScheds : Vector NodeSchedule 24) (meters : Vector Meter 3)
      (claims : List TickClaim) :
      Service s { s with nodes := nodes, nodeScheds := nodeScheds, meters := meters, claims := claims }
  | errorCount (s : State) (n : Nat) (h : n ≤ s.hostLine.errorCount) :
      Service s (s.modHostLine fun h => { h with errorCount := n })
  | notices (s : State) (f : NoticeUnit → NoticeUnit) (h : LevelKeeping f) : Service s (s.withNotices f)
  | attention (s : State) (l : List AttentionEntry) : Service s ({ s with attention := l }).takeAttentionLevel
  | settings (s : State) (f : CompletionQueue → CompletionQueue) (h : ∀ q, (f q).records = q.records) :
      Service s (s.modCompletions f).takeCompletionsLevel
  | take (s : State) (r : Nat) : Service s (takeEffect r s)
  | submit (s : State) (p : List Byte) (o : Order) (form : submittedOrder p s.interval.tick = some o)
      (tests : ∀ c ∈ submitTests o s, c.1 = false) : Service s (submitPlaced o s)
  | fill (s : State) (tag : Byte) (o : Order) (offset : Nat) (data : List Byte) (n : Nat) (found : s.table.find tag = some o)
      (filling : o.state = .filling) :
      Service s ((s.modPool (SegmentPool.writeData .hostSide tag o.chain offset data)).modTable
        (OrderTable.update tag fun o => { o with fill := o.fill + n }))
  | commit (s : State) (tag : Byte) (o : Order) (found : s.table.find tag = some o) (filling : o.state = .filling)
      (room : (s.table.queue o.node).length < 6) : Service s (commitPlaced o s)
  | retire (s : State) (tag : Byte) (o : Order) (found : s.table.find tag = some o) (parked : o.state = .parked) :
      Service s ((s.modPool (SegmentPool.freeAll o.chain)).modTable (OrderTable.release o.tag))
  | claim (s : State) (m : Mark) (tag : Byte) : Service s (s.endOrMark m tag)
  | interval (s : State) (i : IntervalUnit) (h : s.interval.inRange → i.inRange) : Service s { s with interval := i }
  | control (s : State) (t : TrunkId) (f : TrunkControl → TrunkControl) (state : ∀ c, (f c).state = c.state)
      (wait : ∀ c, (f c).wait = c.wait) : Service s (s.modTrunk t f)
  | sched (s : State) (t : TrunkId) (f : Scheduler → Scheduler)
      (h : ∀ c, (f c).announce = true → c.announce = true ∨ s.inService t) : Service s (s.modSched t f)
  | idle (s : State) (t : TrunkId) : Service s (s.idleUpdate t)
  | enable (s : State) (t : TrunkId) (disabled : s.trunks[t].state = .disabled) :
      Service s ((s.modSupply t SupplyMonitor.start).enterActive t .settle)
  | recover (s : State) (t : TrunkId) (down : s.trunks[t].state = .down) :
      Service s ((s.modSupply t fun m => { m with recoveryTimer := false }).enterActive t .none)
  | settle (s : State) (t : TrunkId) (active : s.trunks[t].state = .active) :
      Service s ((s.modSupply t fun m => { m with settleTimer := false }).modTrunk t fun c => { c with wait := .none })
  | stop (s : State) (t : TrunkId) (busy : s.engines[t].exch ≠ none) (running : s.inService t) :
      Service s (((s.modTrunk t fun c => { c with state := .stopping, wait := .none }).modSupply t fun m =>
        { m with settleTimer := false }).modSched t fun g => { g with announce := false })
  | disable (s : State) (t : TrunkId) : Service s (s.enterDisabled t)
  | engine (s : State) (t : TrunkId) (f : Engine → Engine) (h : EngineChange s t (f s.engines[t])) : Service s (s.modEngine t f)
  | start (s : State) (n : NodeId) (o : Order) (burst : Nat) (head : s.table.head n = some o)
      (offered : o.state = .queued ∨ o.state = .active) (running : s.inService (trunkOf n)) :
      Service s (s.startOrderExchange n o burst)
  | exchangeEnd (s : State) (t : TrunkId) (n : NodeId) (x y : Exchange) (e : Ending) (attention : Byte)
      (inFlight : s.engines[t].exch = some y) (same : x.SameAs y)
      (asked : ∀ payload, e = .ack payload → payload.length ≤ s.askedBy x) : Service s (s.exchangeEnd t n x e attention)
  | faultRunning (s : State) (t : TrunkId) (running : s.inService t) : Service s (s.faultRunning t)
  | faultStopping (s : State) (t : TrunkId) (stopping : s.trunks[t].state = .stopping) : Service s (s.faultStopping t)

/-- The changes that one event of the part is made of. -/
inductive Move : State → State → Prop
  | service {s t : State} (ready : s.startUp.part = .ready) (h : Service s t) : Move s t
  /-- The Host Line Unit; in reset a receiver at rest stays at rest. -/
  | line (s : State) (f : HostLine → HostLine)
      (h : s.startUp.part = .inReset → s.hostLine.receiver = .hunting → s.hostLine.reply = none →
        ∀ l, (f l).receiver = l.receiver ∧ (f l).reply = l.reply ∧ (f l).htx = l.htx) : Move s (s.modHostLine f)
  | lineError (s : State) : Move s (s.latch .lineError)
  | sense (s : State) (t : TrunkId) (good : Bool) : Move s (s.modSupply t (SupplyMonitor.sense good s.trunks[t]))
  | beginReset (s : State) (k : ResetKind) : Move s (s.beginReset k)
  | released (s : State) (unit rate : BitVec 2) (low : Bool) :
      Move s (State.released s.pending s.startUp.cause unit rate low (s.supplies.map SupplyMonitor.senseGood))
  | passed (s : State) (h : s.startUp.part = .starting) :
      Move s (({ s with startUp := { s.startUp with part := .ready } }).withNotices id)
  | failed (s : State) (h : s.startUp.part = .starting) : Move s { s with startUp := { s.startUp with part := .failed } }

/-- Chains of the two. -/
abbrev Services : State → State → Prop := Relation.ReflTransGen Service
abbrev Moves : State → State → Prop := Relation.ReflTransGen Move

end Sys2Proof.Machine
end

section
/-! PROOFS. The operations of a part in service as chains of moves. -/

namespace Sys2Proof.Machine

open Sys2Proof

theorem Exchange.SameAs.refl (x : Exchange) : x.SameAs x := ⟨rfl, rfl, rfl⟩

/-! ## Changes of the Notice Unit that keep its levels -/

namespace LevelKeeping

/-- A flag raised above the two level flags and within the nine. -/
theorem raise {f : NoticeFlag} (h : f ≠ .completions) (h' : f ≠ .attention) : LevelKeeping (NoticeUnit.raise f) where
  completions n := by cases f <;> simp_all [NoticeUnit.raise, NoticeFlag.mask, NoticeFlag.bit]
  attention n := by cases f <;> simp_all [NoticeUnit.raise, NoticeFlag.mask, NoticeFlag.bit]
  flags n hn := by
    have unused : f.mask &&& 0xFE00 = 0 := by cases f <;> rfl
    show (n.flags ||| f.mask) &&& 0xFE00 = 0
    rw [BitVec.and_comm, BitVec.and_or_distrib_left, BitVec.and_comm _ n.flags, BitVec.and_comm _ f.mask, hn, unused]
    rfl
  mask n hn := hn

/-- Latched flags cleared. -/
theorem clear {f : NoticeUnit → NoticeUnit} (flags : ∀ n, ∃ w, (f n).flags = n.flags &&& ~~~(latchedFlags &&& w))
    (mask : ∀ n, n.mask &&& 0xFE00 = 0 → (f n).mask &&& 0xFE00 = 0) : LevelKeeping f where
  completions n := by obtain ⟨w, h⟩ := flags n; simp [h, latchedFlags]
  attention n := by obtain ⟨w, h⟩ := flags n; simp [h, latchedFlags]
  flags n hn := by
    obtain ⟨w, h⟩ := flags n
    rw [h, BitVec.and_assoc, BitVec.and_comm (~~~_), ← BitVec.and_assoc, hn]
    exact BitVec.zero_and
  mask := mask

theorem faultSeen {f : NoticeUnit → NoticeUnit} (h : LevelKeeping f) (seen : NoticeUnit → Vector Bool 3) :
    LevelKeeping fun n => { f n with faultSeen := seen n } := ⟨h.1, h.2, h.3, h.4⟩

end LevelKeeping

/-! ## Entering QUEUED -/

theorem ServiceFrame.modTable (f : OrderTable → OrderTable) (s : State) : ServiceFrame s (s.modTable f) := by constructor <;> rfl

theorem ServiceFrame.modPool (f : SegmentPool → SegmentPool) (s : State) : ServiceFrame s (s.modPool f) := by constructor <;> rfl

theorem ServiceFrame.enterQueued (tag : Byte) (s : State) : ServiceFrame s (s.enterQueued tag) := by
  unfold State.enterQueued
  dsimp only
  split
  · exact modTable _ s
  · exact (((modTable _ s).trans (modTable _ _)).trans (wake _ _)).trans (modMeter _ _ _)

theorem ServiceFrame.submitPlaced (o : Order) (s : State) : ServiceFrame s (submitPlaced o s) := by
  have added (u : State) (p : Order) (h : ServiceFrame s u) : ServiceFrame s
      (if o.kind = .bulkSend then u.modTable (OrderTable.add p) else (u.modTable (OrderTable.add p)).enterQueued o.tag) := by
    split
    · exact h.trans (modTable _ _)
    · exact (h.trans (modTable _ _)).trans (enterQueued _ _)
  apply added
  split
  · exact modPool _ s
  · exact refl s

/-- An accepted SUBMIT_ORDER is its placing, with the trunk-free event that follows where the order is QUEUED. -/
theorem submitEffect_eq (o : Order) (s : State) :
    submitEffect o s = if o.kind = .bulkSend then submitPlaced o s else (submitPlaced o s).trunkFree (trunkOf o.node) := by
  unfold submitEffect submitPlaced
  dsimp only
  split <;> rfl

/-! ## Chains in service -/

/-- Nothing a part does in service changes its start-up state or the commands waiting. -/
theorem Service.frame {s t : State} (h : Service s t) : t.startUp = s.startUp ∧ t.pending = s.pending := by
  have of {t : State} (h : ServiceFrame s t) : t.startUp = s.startUp ∧ t.pending = s.pending := ⟨h.startUp, h.pending⟩
  cases h with
  | aside => exact ⟨rfl, rfl⟩
  | errorCount => exact ⟨rfl, rfl⟩
  | notices => exact ⟨rfl, rfl⟩
  | attention => exact ⟨rfl, rfl⟩
  | settings => exact ⟨rfl, rfl⟩
  | take r => exact ⟨(OrderFrame.post _ _).startUp, (OrderFrame.post _ _).pending⟩
  | submit p o => exact of (.submitPlaced o s)
  | fill => exact ⟨rfl, rfl⟩
  | commit tag o => exact of ((ServiceFrame.modPool _ s).trans (.enterQueued _ _))
  | retire => exact ⟨rfl, rfl⟩
  | claim m tag => exact of (.ofOrder (.endOrMark m tag s))
  | interval => exact ⟨rfl, rfl⟩
  | control => exact ⟨rfl, rfl⟩
  | sched => exact ⟨rfl, rfl⟩
  | idle => exact ⟨rfl, rfl⟩
  | enable t => exact of ((ServiceFrame.modSupply t _ s).trans (.enterActive t _ _))
  | recover t => exact of ((ServiceFrame.modSupply t _ s).trans (.enterActive t _ _))
  | settle => exact ⟨rfl, rfl⟩
  | stop => exact ⟨rfl, rfl⟩
  | disable t => exact of (.enterDisabled t s)
  | engine => exact ⟨rfl, rfl⟩
  | start n o burst => exact of (.ofGrant (.startOrderExchange n o burst s))
  | exchangeEnd t n x _ e a => exact of (.exchangeEnd t n x e a s)
  | faultRunning t => exact of (.faultRunning t s)
  | faultStopping t => exact of (.faultStopping t s)

/-! ## The node offered to a trunk -/

/-- The trunk of the node at a place of a trunk. -/
@[simp] theorem trunkOf_nodeAt (t : TrunkId) (k : Fin 8) : trunkOf (nodeAt t k) = t := by
  apply Fin.ext
  show (8 * t.val + k.val) / 8 = t.val
  omega

theorem NodeState.inService_iff (q : NodeState) : q.inService = true ↔ q = .unseen ∨ q = .online := by
  cases q <;> simp [NodeState.inService]

/-- The order a node offers is the QUEUED or waiting ACTIVE head of a node in service without a backoff (R79). -/
theorem State.offered_eq_some {s : State} {n : NodeId} {o : Order} : s.offered n = some o ↔
    (s.nodes[n].state = .unseen ∨ s.nodes[n].state = .online) ∧ s.nodeScheds[n].inForce = false ∧ s.table.head n = some o ∧
      (o.state = .queued ∨ (o.state = .active ∧ s.orderInFlight o = false)) := by
  rw [← NodeState.inService_iff]
  unfold State.offered
  generalize s.nodes[n].state.inService = service
  generalize s.nodeScheds[n].inForce = backoff
  cases service <;> cases backoff <;> simp
  cases s.table.head n with
  | none => simp
  | some p => cases p; grind

theorem State.offered_of_offerable {s : State} {c : OrderClass} {n : NodeId} (h : s.offerable c n = true) :
    ∃ o, s.offered n = some o ∧ o.cls = c := by
  unfold State.offerable at h
  split at h
  · exact ⟨_, ‹_›, of_decide_eq_true h⟩
  · cases h

/-! ## The bytes of a GOOD ACK -/

theorem ackLengthOk_le {type : ExchangeType} {asked length : Nat} (h : ackLengthOk type asked length = true) :
    length ≤ asked := by
  cases type <;> simp [ackLengthOk] at h <;> omega

/-- A GOOD ACK carries at most the bytes its exchange asks for (R58). -/
theorem classify_ack_length {x : Exchange} {asked : Nat} {bs : List Byte} {r : GoodReply}
    (h : classify x asked bs = .good r) (ack : r.type = .ack) : r.payload.length ≤ asked := by
  have short : ((bs.drop 6).take (payloadLength bs)).length ≤ payloadLength bs := List.length_take_le _ _
  unfold classify at h
  dsimp only at h
  split at h
  · cases h
  split at h
  · cases h
  split at h
  · cases h
  split at h
  · cases h
  split at h
  · cases h
  · split at h
    · cases h
      exact short.trans (ackLengthOk_le ‹_›)
    · cases h
  · split at h <;> cases h
    cases ack
  · split at h <;> cases h
    cases ack

namespace Services

theorem one {s t : State} (h : Service s t) : Services s t := .single h
theorem refl (s : State) : Services s s := Relation.ReflTransGen.refl

theorem forAll {α : Type} (f : α → State → State) (h : ∀ a s, Services s (f a s)) (l : List α) (s : State) :
    Services s (Machine.forAll f l s) := forAll_rel refl (fun h k => h.trans k) f h l s

theorem frame {s t : State} (h : Services s t) : t.startUp = s.startUp ∧ t.pending = s.pending := by
  induction h with
  | refl => exact ⟨rfl, rfl⟩
  | tail _ h ih => exact ⟨h.frame.1.trans ih.1, h.frame.2.trans ih.2⟩

theorem modNode (n : NodeId) (f : NodeRecord → NodeRecord) (s : State) : Services s (s.modNode n f) :=
  one (.aside s _ s.nodeScheds s.meters s.claims)
theorem modNodeSched (n : NodeId) (f : NodeSchedule → NodeSchedule) (s : State) : Services s (s.modNodeSched n f) :=
  one (.aside s s.nodes _ s.meters s.claims)
theorem modMeter (t : TrunkId) (f : Meter → Meter) (s : State) : Services s (s.modMeter t f) :=
  one (.aside s s.nodes s.nodeScheds _ s.claims)
theorem setClaims (l : List TickClaim) (s : State) : Services s { s with claims := l } :=
  one (.aside s s.nodes s.nodeScheds s.meters l)

theorem latch {f : NoticeFlag} (h : f ≠ .completions) (h' : f ≠ .attention) (s : State) : Services s (s.latch f) :=
  one (.notices s _ (.raise h h'))

/-! ## Grants -/

theorem setSched (t : TrunkId) (f : Scheduler → Scheduler) (h : ∀ c, (f c).announce = c.announce) (s : State) :
    Services s (s.modSched t f) := one (.sched s t f fun c hc => .inl ((h c).symm.trans hc))

/-- An exchange without an order starts on a trunk in service. -/
theorem beginFree (t : TrunkId) (x : Exchange) (g : Grant) (s : State) (running : s.inService t) (order : x.order = none)
    (node : ∀ n, x.node = some n → trunkOf n = t) (grant : ∀ n, g.node = some n → trunkOf n = t) :
    Services s (s.beginExchange t x g) :=
  one (.engine s t _ ⟨.inr (.inl ⟨x, rfl, order, node, running⟩), nofun, fun _ n e hn => .inl (grant n (by cases e; exact hn))⟩)

theorem startFor (t : TrunkId) (g : Group) (k : Fin 8) (s : State) (running : s.inService t)
    (chosen : s.candidate g (nodeAt t k) = true) : Services s (s.startFor g (nodeAt t k)) := by
  have running' : s.inService (trunkOf (nodeAt t k)) := by rwa [trunkOf_nodeAt]
  have order (c : OrderClass) (h : s.offerable c (nodeAt t k) = true) : Services s
      (match s.table.head (nodeAt t k) with | some o => s.startOrderExchange (nodeAt t k) o 1 | none => s) := by
    obtain ⟨o, ho, -⟩ := State.offered_of_offerable h
    obtain ⟨-, -, head, offered⟩ := State.offered_eq_some.1 ho
    rw [head]
    exact one (.start s _ o 1 head (offered.imp id And.left) running')
  cases g with
  | announce => exact refl s
  | urgent => exact order .urgent chosen
  | routine => exact order .routine chosen
  | poll => exact beginFree _ _ _ s running' rfl (fun n hn => by cases hn; rfl) (fun n hn => by cases hn; rfl)

/-- A trunk-free event (R76). -/
theorem trunkFree (t : TrunkId) (s : State) : Services s (s.trunkFree t) := by
  unfold State.trunkFree
  split
  case isFalse => exact refl s
  case isTrue free =>
    have running : s.inService t := by
      simp only [State.isFree, Bool.and_eq_true, Bool.or_eq_true, decide_eq_true_eq] at free
      exact free.1.1.1.2
    have passOver (g : Group) (u : State) : Services u (u.updatePassOver t g) := by
      unfold State.updatePassOver
      refine setSched t _ (fun c => ?_) u
      rfl
    have pointer (g : Group) (k : Fin 8) (u : State) : Services u (u.modSched t (Scheduler.setPointer g k)) :=
      setSched t _ (fun _ => by cases g <;> rfl) u
    split
    · exact refl s
    · refine (passOver .announce s).trans ((one (.sched _ t (fun g => { g with announce := false }) ?_)).trans ?_)
      · intro c h
        cases h
      · exact beginFree t _ _ _ running rfl (fun n h => by cases h) (fun n h => by cases h)
    · rename_i g _ _
      split
      · exact refl s
      · rename_i k chosen
        have candidate : s.candidate g (nodeAt t k) = true := by
          unfold State.placeChosen at chosen
          simpa using List.find?_some chosen
        dsimp only
        split
        · exact (passOver g s).trans ((pointer g k _).trans
            (startFor t g k _ running candidate))
        · exact (passOver g s).trans (startFor t g k _ running candidate)

theorem trunksFree (s : State) : Services s s.trunksFree := forAll _ trunkFree _ s

/-- The end of a guard (R59, R88, R89). -/
theorem guardEnd (t : TrunkId) (s : State) : Services s (s.guardEnd t) := by
  unfold State.guardEnd
  split
  · rename_i x hx
    exact one (.engine s t _ ⟨.inl ⟨_, x, rfl, hx, rfl, rfl, rfl⟩, fun h => (by cases h), fun g n hg hn => .inr ⟨g, hg, hn⟩⟩)
  · rename_i hx
    split
    · rename_i n o b burst
      unfold State.burstOrder at burst
      split at burst
      case h_2 => cases burst
      split at burst
      case h_2 => cases burst
      split at burst
      case h_2 => cases burst
      split at burst
      case isFalse => cases burst
      rename_i _ _ m _ p offered conds
      cases burst
      obtain ⟨own, -, -, active, -, -, -, running⟩ := conds
      exact one (.start s _ _ _ (State.offered_eq_some.1 offered).2.2.1 (.inr active) (by rwa [own]))
    · exact (one (.engine s t _ ⟨.inr (.inr ⟨rfl, .inl hx⟩), fun _ => rfl, fun _ _ hg => (by cases hg)⟩)).trans (trunkFree t _)

/-! ## Intervals and ticks -/

theorem reportTrunk (short : Bool) (span : Nat) (t : TrunkId) (s : State) : Services s (s.reportTrunk short span t) := by
  unfold State.reportTrunk
  dsimp only
  split
  · exact refl s
  · split
    · exact ((modMeter t _ s).trans (latch (by decide) (by decide) _)).trans (latch (by decide) (by decide) _)
    · exact (modMeter t _ s).trans (latch (by decide) (by decide) _)

theorem intervalStartTrunk (t : TrunkId) (s : State) : Services s (s.intervalStartTrunk t) := by
  unfold State.intervalStartTrunk
  dsimp only
  split
  · rename_i h
    exact (modMeter t _ s).trans (one (.sched _ t _ fun _ _ => .inr h.1))
  · exact modMeter t _ s

/-- An interval end (R152, R154). -/
theorem closeInterval (short : Bool) (span : Nat) (s : State) : Services s (s.closeInterval short span) := by
  have restarted (i : IntervalUnit) (h : i.inRange) :
      IntervalUnit.inRange { i with position := 0, length := i.pendingLength.getD i.length, pendingLength := none } := by
    obtain ⟨tick, length, pending, position⟩ := i
    cases pending with
    | none => exact ⟨h.1, h.2.1, by have := h.1; show 0 < length; dsimp only at this; omega, nofun⟩
    | some n =>
      obtain ⟨lo, hi⟩ := h.2.2.2 n rfl
      exact ⟨lo, hi, by show 0 < n; omega, nofun⟩
  exact ((forAll _ (reportTrunk short span) _ s).trans (forAll _ (fun t s => one (.idle s t)) _ _)).trans
    ((forAll _ intervalStartTrunk _ _).trans ((one (.interval _ _ (restarted _))).trans (trunksFree _)))

/-- One claim of a tick event (R151). -/
theorem applyClaim (c : TickClaim) (s : State) : Services s (s.applyClaim c) := by
  cases c with
  | expiry tag =>
    show Services s (s.takeExpiry tag)
    unfold State.takeExpiry
    split
    · split
      · exact (one (.claim s _ _)).trans (trunkFree _ _)
      · exact refl s
    · exact refl s
  | backoff n =>
    show Services s (s.takeBackoffExpiry n)
    unfold State.takeBackoffExpiry
    split
    · exact (modNodeSched n _ s).trans (trunkFree _ _)
    · exact refl s
  | poll n =>
    show Services s (s.takePollDue n)
    unfold State.takePollDue
    split
    · exact (modNodeSched n _ s).trans (trunkFree _ _)
    · exact refl s
  | headAged =>
    show Services s s.takeHeadAged
    unfold State.takeHeadAged
    split
    · exact one (.settings s _ fun _ => rfl)
    · exact refl s
  | intervalEnd =>
    show Services s s.advanceInterval
    unfold State.advanceInterval
    split
    · exact one (.interval s _ fun h => ⟨h.1, h.2.1, ‹_›, h.2.2.2⟩)
    · exact closeInterval _ _ s

theorem takeClaim (c : TickClaim) (s : State) : Services s (s.takeClaim c) := by
  unfold State.takeClaim
  split
  · exact (setClaims _ s).trans (applyClaim c _)
  · exact refl s

/-- A tick event (R151). -/
theorem tickEvent (s : State) : Services s s.tickEvent := by
  refine (((setClaims [] s).trans (forAll _ applyClaim _ _)).trans ((one (.interval s.takeLeftClaims _ fun h => ?_)).trans
    (setClaims _ _)))
  refine ⟨h.1, h.2.1, ?_, h.2.2.2⟩
  have := h.2.2.1
  dsimp only
  split
  · exact this
  · simp_all

/-! ## Exchanges -/

/-- An attempt ends: a retry is due, or the exchange ends (R60, R62, R71). -/
theorem attemptEnd (t : TrunkId) (x : Exchange) (c : ReplyClass) (s : State) (inFlight : s.engines[t].exch = some x)
    (asked : ∀ r, c = .good r → r.type = .ack → r.payload.length ≤ s.askedBy x) : Services s (s.attemptEnd t x c) := by
  have lost (c : ReplyClass) (n : NodeId) : Services s (if (x.failedAttempt c).attempts < s.allowedAttempts t x then
      s.modEngine t fun e =>
        { e with phase := .guard, exch := some (x.failedAttempt c), rx := [], rxFault := false, guardTimes := 2 }
      else s.exchangeEnd t n (x.failedAttempt c) .failure 0) := by
    split
    · exact one (.engine s t _ ⟨.inl ⟨_, x, rfl, inFlight, rfl, rfl, rfl⟩, fun h => (by cases h),
        fun g n hg hn => .inr ⟨g, hg, hn⟩⟩)
    · exact one (.exchangeEnd s t n _ x _ _ inFlight ⟨rfl, rfl, rfl⟩ fun _ h => (by cases h))
  unfold State.attemptEnd
  split
  · exact refl s
  · rename_i n _
    split
    · rename_i r
      refine one (.exchangeEnd s t n x x _ _ inFlight (.refl x) fun payload h => ?_)
      obtain ⟨type, attention, bytes⟩ := r
      cases type with
      | ack => cases h; exact asked _ rfl rfl
      | nak => cases h
      | busy => cases h
    · exact lost _ n

theorem attemptEndIn (t : TrunkId) (phase : EnginePhase) (fault : Bool) (c : ReplyClass) (hc : ∀ r, c ≠ .good r) (s : State) :
    Services s (s.attemptEndIn t phase fault c) := by
  unfold State.attemptEndIn
  split
  · split
    · exact attemptEnd t _ c s ‹_› fun r h => absurd h (hc r)
    · exact refl s
  · exact refl s

/-- A byte on a trunk's RX (R55). -/
theorem trunkByte (t : TrunkId) (b : Byte) (fe : Bool) (s : State) : Services s (s.trunkByte t b fe) := by
  unfold State.trunkByte
  split
  · rename_i x hx
    split
    · unfold State.collect
      dsimp only
      split
      · refine attemptEnd t x _ s hx fun r h ack => ?_
        split at h
        · cases h
        · exact classify_ack_length h ack
      · exact one (.engine s t _ ⟨.inl ⟨x, x, hx, hx, .refl x⟩, fun h => (by cases h), fun g n hg hn => .inr ⟨g, hg, hn⟩⟩)
    · exact refl s
  · exact refl s

theorem frameSent (t : TrunkId) (s : State) : Services s (s.frameSent t) := by
  unfold State.frameSent
  split
  · rename_i x hp hx
    have granted : ∀ g n, s.engines[t].grant = some g → g.node = some n →
        trunkOf n = t ∨ ∃ g', s.engines[t].grant = some g' ∧ g'.node = some n := fun g n hg hn => .inr ⟨g, hg, hn⟩
    split
    · exact one (.engine s t _ ⟨.inl ⟨x, x, hx, hx, .refl x⟩, fun h => (by cases h), granted⟩)
    · split
      · exact one (.disable s t)
      · exact one (.engine s t _ ⟨.inr (.inr ⟨rfl, .inr ‹_›⟩), fun _ => rfl, granted⟩)
  · exact refl s

/-! ## Supplies and trunk states -/

theorem supplyFault (t : TrunkId) (s : State) : Services s (s.supplyFault t) := by
  unfold State.supplyFault
  split
  · split
    · exact one (.faultRunning s t (.inl ‹_›))
    · exact one (.faultRunning s t (.inr ‹_›))
    · exact one (.faultStopping s t ‹_›)
    · exact refl s
    · exact refl s
  · exact refl s

theorem settleEnd (t : TrunkId) (s : State) : Services s (s.settleEnd t) := by
  unfold State.settleEnd
  split
  · rename_i h
    exact (one (.settle s t h.2.1)).trans (trunkFree t _)
  · exact refl s

theorem recover (t : TrunkId) (s : State) : Services s (s.recover t) := by
  unfold State.recover
  split
  · rename_i h
    exact ((one (.recover s t h.2)).trans (latch (by decide) (by decide) _)).trans (trunkFree t _)
  · exact refl s

theorem disableRunning (t : TrunkId) (s : State) (running : s.inService t) : Services s (s.disableRunning t) := by
  have claims := forAll _ (fun tag s => one (.claim s .cancel tag)) (s.trunkQueueTags t) s
  have frame : OrderFrame s (Machine.forAll (State.endOrMark .cancel) (s.trunkQueueTags t) s) :=
    .forAll _ (.endOrMark .cancel) _ s
  unfold State.disableRunning
  dsimp only
  split
  · rename_i busy
    refine claims.trans (one (.stop _ t ?_ ?_))
    · rw [frame.engines]
      exact Option.isSome_iff_ne_none.1 busy
    · unfold State.inService
      rwa [frame.trunks]
  · exact claims.trans (one (.disable _ t))

theorem writeMode (code : BitVec 6) (t : TrunkId) (s : State) : Services s (s.writeMode code t) := by
  have control : Services s (s.modTrunk t fun c => { c with mode := code }) :=
    one (.control s t _ (fun _ => rfl) fun _ => rfl)
  unfold State.writeMode
  dsimp only
  split
  · exact refl s
  · split
    · rename_i h
      refine (control.trans (one (.sched _ t _ fun _ _ => .inr ?_))).trans (trunkFree t _)
      unfold State.inService
      simpa using h.2
    · exact control

theorem returnNode (n : NodeId) (s : State) : Services s (s.returnNode n) := (modNode n _ s).trans (trunkFree _ _)

end Services

end Sys2Proof.Machine
end

section
/-! PROOFS. The commands as chains of moves: the requests by their answers, then every command. -/

namespace Sys2Proof.Machine

open Sys2Proof

/-! ## The 29 requests -/

/-- The requests of table 10.5. -/
inductive KnownRequest : Request → Prop
  | readIdentity : KnownRequest reqReadIdentity
  | readStatus : KnownRequest reqReadStatus
  | resetPart : KnownRequest reqResetPart
  | setNoticeMask : KnownRequest reqSetNoticeMask
  | clearNotices : KnownRequest reqClearNotices
  | submitOrder : KnownRequest reqSubmitOrder
  | fillOrder : KnownRequest reqFillOrder
  | commitOrder : KnownRequest reqCommitOrder
  | cancelOrder : KnownRequest reqCancelOrder
  | readOrder : KnownRequest reqReadOrder
  | readFetched : KnownRequest reqReadFetched
  | retireOrder : KnownRequest reqRetireOrder
  | takeCompletions : KnownRequest reqTakeCompletions
  | setCompletionNotice : KnownRequest reqSetCompletionNotice
  | readAttention : KnownRequest reqReadAttention
  | clearAttention : KnownRequest reqClearAttention
  | readNode : KnownRequest reqReadNode
  | enableNode : KnownRequest reqEnableNode
  | disableNode : KnownRequest reqDisableNode
  | restoreNode : KnownRequest reqRestoreNode
  | setTrunk : KnownRequest reqSetTrunk
  | readTrunk : KnownRequest reqReadTrunk
  | enableTrunk : KnownRequest reqEnableTrunk
  | disableTrunk : KnownRequest reqDisableTrunk
  | setModeCode : KnownRequest reqSetModeCode
  | readReport : KnownRequest reqReadReport
  | setInterval : KnownRequest reqSetInterval
  | syncInterval : KnownRequest reqSyncInterval
  | resetPeak : KnownRequest reqResetPeak

theorem KnownRequest.of_requestOf {kind : Byte} {req : Request} (h : requestOf kind = some req) : KnownRequest req := by
  unfold requestOf at h
  generalize kind.toNat = n at h
  split at h <;> cases h
  exacts [.readIdentity, .readStatus, .resetPart, .setNoticeMask, .clearNotices, .submitOrder, .fillOrder, .commitOrder,
    .cancelOrder, .readOrder, .readFetched, .retireOrder, .takeCompletions, .setCompletionNotice, .readAttention,
    .clearAttention, .readNode, .enableNode, .disableNode, .restoreNode, .setTrunk, .readTrunk, .enableTrunk,
    .disableTrunk, .setModeCode, .readReport, .setInterval, .syncInterval, .resetPeak]

/-- A request command is the delivery of the request of its kind (log entry 1). -/
theorem exec_request {i : Instr} {kind : Byte} {p : List Byte} (h : i.request? = some (kind, p)) :
    ∃ req, requestOf kind = some req ∧ ∀ s, exec i s = .next (deliver kind req p s) := by
  cases i <;> cases h <;> exact ⟨_, rfl, fun _ => rfl⟩

/-! ## What an answer can be -/

/-- An answer is a refusal that changes nothing, or an acceptance whose state follows, in service, from the one before. -/
def Answer.Follows (s : State) (a : Answer) : Prop :=
  (∃ o, a = refuse o s) ∨
    ((a.outcome = .accepted ∨ a.outcome = .cancelPending) ∧ (a.state = s ∨ (s.startUp.part = .ready ∧ Services s a.state)))

namespace Answer.Follows

variable {s t : State}

theorem refused (o : OutcomeCode) : (refuse o s).Follows s := .inl ⟨o, rfl⟩

theorem read (p : List Byte) : (acceptWith p s).Follows s := .inr ⟨.inl rfl, .inl rfl⟩

theorem done (ready : s.startUp.part = .ready) (h : Services s t) (p : List Byte) : (acceptWith p t).Follows s :=
  .inr ⟨.inl rfl, .inr ⟨ready, h⟩⟩

theorem accepted (ready : s.startUp.part = .ready) (h : Services s t) : (accept t).Follows s := done ready h []

theorem ofChecked {gate : PartState → Option OutcomeCode} {l f : Bool} {body : State → Answer}
    (h : l = true → f = true → gate s.startUp.part = none → (body s).Follows s) : (checked gate l f body s).Follows s := by
  unfold Machine.checked
  split
  · exact refused _
  · split
    · exact refused _
    · split
      · exact refused _
      · exact h (by simp_all) (by simp_all) ‹_›

theorem ofReady {l f : Bool} {body : State → Answer}
    (h : l = true → f = true → s.startUp.part = .ready → (body s).Follows s) :
    (Machine.checked gateReady l f body s).Follows s :=
  ofChecked fun hl hf hg => h hl hf (by revert hg; cases s.startUp.part <;> simp [gateReady])

theorem ofTests {tests : List (Bool × OutcomeCode)} {body : State → Answer}
    (h : (∀ c ∈ tests, c.1 = false) → (body s).Follows s) : (firstOf tests body s).Follows s := by
  unfold Machine.firstOf
  split
  · exact refused _
  · rename_i none
    exact h fun c hc => by simpa using List.find?_eq_none.1 none c hc

theorem ofOrder {tag : Byte} {body : Order → State → Answer}
    (h : ∀ o, s.table.find tag = some o → (body o s).Follows s) : (withOrder tag body s).Follows s := by
  unfold Machine.withOrder
  split
  · exact h _ ‹_›
  · exact refused _

theorem ofNode {p : List Byte} {body : NodeId → State → Answer}
    (h : ∀ n, s.startUp.part = .ready → (body n s).Follows s) : (nodeRequest p body s).Follows s :=
  ofReady fun _ _ ready => by
    split
    · exact h _ ready
    · exact refused _

theorem ofTrunk {length : Nat} {fieldsOk : Bool} {p : List Byte} {body : TrunkId → State → Answer}
    (h : ∀ t, s.startUp.part = .ready → (body t s).Follows s) : (trunkRequest length fieldsOk p body s).Follows s :=
  ofReady fun _ _ ready => by
    split
    · exact h _ ready
    · exact refused _

theorem ofTag {p : List Byte} {body : Order → State → Answer}
    (h : ∀ tag o, s.table.find tag = some o → s.startUp.part = .ready → (body o s).Follows s) : (tagRequest p body s).Follows s :=
  ofReady fun _ _ ready => ofOrder fun o found => h _ o found ready

end Answer.Follows

/-- SET_MODE_CODE, addressed or broadcast. -/
theorem setModeCode_follows (broadcast : Bool) (p : List Byte) (s : State) : (setModeCode broadcast p s).Follows s := by
  refine .ofReady fun _ _ ready => ?_
  exact .accepted ready (Services.forAll _ (Services.writeMode _) _ s)

open Answer.Follows in
/-- Every request is answered so. -/
theorem KnownRequest.follows {req : Request} (h : KnownRequest req) (p : List Byte) (s : State) : (req p s).Follows s := by
  cases h with
  | readIdentity => exact ofChecked fun _ _ _ => read identityPayload
  | readStatus => exact ofChecked fun _ _ _ => read (statusPayload s)
  | resetPart => exact ofChecked fun _ _ _ => read []
  | setNoticeMask =>
    unfold reqSetNoticeMask
    refine ofReady fun _ unused ready => accepted ready (Services.one (.notices s _ (.clear (fun n => ?_) fun _ _ => ?_)))
    · exact ⟨n.mask &&& ~~~wordAt p 0, by rw [← BitVec.and_assoc]⟩
    · exact of_decide_eq_true unused
  | clearNotices =>
    rw [reqClearNotices_eq]
    refine ofReady fun _ _ ready => done ready ?_ _
    have count : (if (wordAt p 0).getLsbD 7 then 0 else s.hostLine.errorCount) ≤ s.hostLine.errorCount := by
      split
      · exact Nat.zero_le _
      · exact Nat.le_refl _
    exact (Services.one (.errorCount s _ count)).trans (Services.one (.notices _ _ (.clear (fun _ => ⟨_, rfl⟩) fun _ h => h)))
  | submitOrder =>
    refine ofReady fun _ _ ready => ?_
    split
    · rename_i o form
      refine ofTests fun tests => accepted ready ?_
      have placed : Services s (submitPlaced o s) := Services.one (.submit s p o form tests)
      rw [submitEffect_eq]
      split
      · exact placed
      · exact placed.trans (Services.trunkFree _ _)
    · exact refused _
  | fillOrder =>
    refine ofReady fun _ _ ready => ofOrder fun o found => ofTests fun tests => accepted ready ?_
    have filling : o.state = .filling := by simpa using tests _ (.head _)
    exact Services.one (.fill s _ o _ _ _ found filling)
  | commitOrder =>
    refine ofTag fun tag o found ready => ofTests fun tests => accepted ready ?_
    have filling : o.state = .filling := by simpa using tests _ (.head _)
    have room : (s.table.queue o.node).length < 6 := by
      simpa [State.queueFull] using tests (s.queueFull o.node, .nodeQueueFull) (by simp)
    exact (Services.one (.commit s tag o found filling room)).trans (Services.trunkFree _ _)
  | cancelOrder =>
    refine ofTag fun tag o found ready => ?_
    have ended : Services s (s.endOrMark .cancel o.tag) := Services.one (.claim s _ _)
    have freed := ended.trans (Services.trunkFree (trunkOf o.node) _)
    dsimp only
    split
    · exact accepted ready freed
    · exact accepted ready freed
    · split
      · exact .inr ⟨.inr rfl, .inr ⟨ready, ended⟩⟩
      · exact accepted ready freed
    · exact refused _
    · exact refused _
  | readOrder => exact ofTag fun _ o _ _ => read (orderPayload s o)
  | readFetched =>
    refine ofReady fun _ _ _ => ofOrder fun _ _ => ofTests fun _ => ?_
    exact read _
  | retireOrder =>
    refine ofTag fun tag o found ready => ?_
    split
    · exact accepted ready (Services.one (.retire s tag o found ‹_›))
    all_goals exact refused _
  | takeCompletions =>
    unfold reqTakeCompletions
    exact ofReady fun _ _ ready => done ready (Services.one (.take s _)) _
  | setCompletionNotice =>
    unfold reqSetCompletionNotice
    exact ofReady fun _ _ ready => accepted ready (Services.one (.settings s _ fun _ => rfl))
  | readAttention => exact ofReady fun _ _ ready => done ready (Services.one (.attention s _)) _
  | clearAttention => exact ofReady fun _ _ ready => done ready (Services.one (.attention s _)) _
  | readNode => exact ofNode fun n _ => read (nodePayload s n)
  | enableNode =>
    refine ofNode fun n ready => ?_
    split
    · exact accepted ready (.returnNode n s)
    all_goals exact refused _
  | disableNode =>
    refine ofNode fun n ready => ?_
    have ended := (Services.modNode n (fun r => { r with state := .disabled }) s).trans
      (Services.forAll _ (fun tag s => Services.one (.claim s .cancel tag)) (s.table.queue n) _)
    split
    · exact read []
    all_goals exact accepted ready ended
  | restoreNode =>
    refine ofNode fun n ready => ?_
    split
    · exact accepted ready (.returnNode n s)
    all_goals exact refused _
  | setTrunk =>
    exact ofTrunk fun t ready => ofTests fun _ => accepted ready (Services.one (.control s t _ (fun _ => rfl) fun _ => rfl))
  | readTrunk => exact ofTrunk fun t _ => read (trunkPayload s t)
  | enableTrunk =>
    refine ofTrunk fun t ready => ofTests fun tests => accepted ready (Services.one (.enable s t ?_))
    simpa using tests _ (.head _)
  | disableTrunk =>
    refine ofTrunk fun t ready => ?_
    split
    · exact accepted ready (.disableRunning t s (.inl ‹_›))
    · exact accepted ready (.disableRunning t s (.inr ‹_›))
    · exact accepted ready (Services.one (.disable s t))
    · exact refused _
    · exact read []
  | setModeCode => exact setModeCode_follows false p s
  | readReport =>
    refine ofTrunk fun t _ => ?_
    split
    · exact read _
    · exact refused _
  | setInterval =>
    unfold reqSetInterval
    refine ofReady fun _ range ready => accepted ready (Services.one (.interval s _ fun h => ⟨h.1, h.2.1, h.2.2.1, ?_⟩))
    rintro n ⟨⟩
    exact of_decide_eq_true range
  | syncInterval => exact ofReady fun _ _ ready => accepted ready (.closeInterval _ _ s)
  | resetPeak =>
    refine ofTrunk fun t ready => ?_
    exact done ready (.modMeter t _ s) _

/-! ## Every command -/

namespace Moves

variable {s t : State}

theorem one (h : Move s t) : Moves s t := .single h

theorem ofServices (ready : s.startUp.part = .ready) (h : Services s t) : Moves s t := by
  induction h with
  | refl => exact .refl
  | tail chain last ih => exact ih.tail (.service ((Services.frame chain).1 ▸ ready) last)

theorem line (awake : s.startUp.part ≠ .inReset) (f : HostLine → HostLine) : Moves s (s.modHostLine f) :=
  one (.line s f fun h => absurd h awake)

/-- A change of the Host Line Unit with a line error (R168, R170, R172). -/
theorem lineError (f : HostLine → HostLine) (h : s.startUp.part = .inReset → s.hostLine.receiver ≠ .hunting) :
    Moves s (s.modHostLine f).lineError :=
  (one (.line s (fun l => { f l with errorCount := min Config.byteLimit ((f l).errorCount + 1) })
    fun part hunting => absurd hunting (h part))).trans (one (.lineError _))

theorem discardFrame (h : s.startUp.part = .inReset → s.hostLine.receiver ≠ .hunting) : Moves s s.discardFrame := lineError _ h

theorem discardWhileReplying (awake : s.startUp.part ≠ .inReset) : Moves s s.discardWhileReplying := by
  unfold State.discardWhileReplying
  split
  · exact .refl
  · exact lineError _ fun h => absurd h awake

/-- What a request's answer does to the state it is taken against. -/
theorem ofAnswer {a : Answer} (h : a.Follows s) : Moves s a.state := by
  rcases h with ⟨o, rfl⟩ | ⟨-, h | ⟨ready, h⟩⟩
  · exact .refl
  · rw [h]
  · exact ofServices ready h

theorem Answer.Follows.startUp {a : Answer} (h : a.Follows s) : a.state.startUp = s.startUp := by
  rcases h with ⟨o, rfl⟩ | ⟨-, h | ⟨-, h⟩⟩
  · rfl
  · rw [h]
  · exact (Services.frame h).1

theorem takeAddressed (awake : s.startUp.part ≠ .inReset) (kind : Byte) (frame : List Byte) {request : Request}
    (p : List Byte) (h : ∀ s, (request p s).Follows s) : Moves s (takeAddressed kind frame request p s) := by
  have answered := h (s.frameTaken frame)
  have fixed (a : Answer) (h : a.state.startUp.part ≠ .inReset) : Moves a.state (a.fixed kind) := line h _
  exact ((line awake _).trans (ofAnswer answered)).trans (fixed _ (by rwa [Answer.Follows.startUp answered]))

theorem deliver {request : Request} (h : KnownRequest request) (kind : Byte) (p : List Byte) (s : State) :
    Moves s (deliver kind request p s) := by
  unfold Machine.deliver
  split
  · exact .refl
  · rename_i awake
    refine (line (s := s) awake fun h => { h with hrxLow := false, lineHold := false }).trans ?_
    dsimp only
    split
    · exact discardWhileReplying awake
    · split
      · exact discardFrame fun part => absurd part awake
      · exact takeAddressed (s := s.hrxAfterByte false) awake _ _ p (h.follows p)

theorem takeBroadcast (awake : s.startUp.part ≠ .inReset) (kind : Byte) (p : List Byte) :
    Moves s (takeBroadcast kind p s) := by
  unfold Machine.takeBroadcast
  split
  · dsimp only
    split
    · exact (ofAnswer (KnownRequest.resetPart.follows p s)).trans (one (.beginReset _ _))
    · exact .refl
  · exact ofAnswer (setModeCode_follows true p s)
  · exact ofAnswer (KnownRequest.syncInterval.follows p s)
  · exact lineError id fun part => absurd part awake

theorem frameComplete (awake : s.startUp.part ≠ .inReset) (frame : List Byte) : Moves s (frameComplete frame s) := by
  unfold Machine.frameComplete
  dsimp only
  split
  · exact discardFrame fun part => absurd part awake
  · split
    · exact (line awake _).trans (takeBroadcast (s := s.toHunting) awake _ _)
    · split
      · refine takeAddressed awake _ _ _ fun s => ?_
        cases known : requestOf (byteAt frame 2) with
        | none => exact .refused _
        | some request => exact (KnownRequest.of_requestOf known).follows _ s
      · exact line awake _

theorem receiveByte (awake : s.startUp.part ≠ .inReset) (b : Byte) (fe : Bool) : Moves s (receiveByte b fe s) := by
  unfold Machine.receiveByte
  split
  · split
    · exact line awake _
    · exact .refl
  · split
    · exact discardFrame fun part => absurd part awake
    · unfold storeByte
      dsimp only
      split
      · exact discardFrame fun part => absurd part awake
      · split
        · exact frameComplete awake _
        · exact line awake _
  · exact discardWhileReplying awake

theorem whenReady {f : State → State} (h : Services s (f s)) : Moves s (whenReady f s) := by
  unfold Machine.whenReady
  split
  · exact ofServices ‹_› h
  · exact .refl

end Moves

/-- The events: those of the host line, of reset and of the sense inputs, and those that take place in service alone. -/
inductive EventForm : Instr → Prop
  | hostByteReceived (b : Byte) (fe : Bool) : EventForm (.hostByteReceived b fe)
  | gapTimeout : EventForm .gapTimeout
  | replyStart : EventForm .replyStart
  | replyEnd : EventForm .replyEnd
  | lineHoldReset : EventForm .lineHoldReset
  | pinReset : EventForm .pinReset
  | powerOnReset : EventForm .powerOnReset
  | resetRelease (unit rate : BitVec 2) (low : Bool) : EventForm (.resetRelease unit rate low)
  | memoryCheckPassed : EventForm .memoryCheckPassed
  | memoryCheckFailed : EventForm .memoryCheckFailed
  | senseChange (t : TrunkId) (good : Bool) : EventForm (.senseChange t good)
  | service {i : Instr} (f : State → State) (run : ∀ s, exec i s = .next (whenReady f s)) (chain : ∀ s, Services s (f s)) :
      EventForm i

open Services in
theorem EventForm.of_event {i : Instr} (event : i.request? = none) : EventForm i := by
  cases i
  case hostByteReceived b fe => exact .hostByteReceived b fe
  case gapTimeout => exact .gapTimeout
  case replyStart => exact .replyStart
  case replyEnd => exact .replyEnd
  case lineHoldReset => exact .lineHoldReset
  case pinReset => exact .pinReset
  case powerOnReset => exact .powerOnReset
  case resetRelease u r low => exact .resetRelease u r low
  case memoryCheckPassed => exact .memoryCheckPassed
  case memoryCheckFailed => exact .memoryCheckFailed
  case senseChange t good => exact .senseChange t good
  case tick => exact .service _ (fun _ => rfl) tickEvent
  case orderExpiry tag =>
    refine .service _ (fun _ => rfl) fun s => ?_
    split
    · exact takeClaim _ s
    · exact Services.refl s
  case busyBackoffExpiry n => exact .service _ (fun _ => rfl) (takeClaim _)
  case pollDue n => exact .service _ (fun _ => rfl) (takeClaim _)
  case headRecordAged => exact .service _ (fun _ => rfl) (takeClaim _)
  case intervalEnd => exact .service _ (fun _ => rfl) (takeClaim _)
  case frameSent t => exact .service _ (fun _ => rfl) (frameSent t)
  case replyStartTimeout t => exact .service _ (fun _ => rfl) (attemptEndIn t _ _ _ (fun _ h => by cases h))
  case trunkByteReceived t b fe => exact .service _ (fun _ => rfl) (trunkByte t b fe)
  case replyGapTimeout t => exact .service _ (fun _ => rfl) (attemptEndIn t _ _ _ (fun _ h => by cases h))
  case faultWaitEnd t => exact .service _ (fun _ => rfl) (attemptEndIn t _ _ _ (fun _ h => by cases h))
  case guardEnd t =>
    refine .service _ (fun _ => rfl) fun s => ?_
    split
    · exact guardEnd t s
    · exact Services.refl s
  case supplyFault t => exact .service _ (fun _ => rfl) (supplyFault t)
  case settleEnd t => exact .service _ (fun _ => rfl) (settleEnd t)
  case trunkRecovery t => exact .service _ (fun _ => rfl) (recover t)
  all_goals cases event

/-- Every event of the part is a chain of moves. -/
theorem EventForm.moves {i : Instr} (form : EventForm i) (s : State) : ∃ t, exec i s = .next t ∧ Moves s t := by
  cases form with
  | hostByteReceived b fe =>
    refine ⟨_, rfl, ?_⟩
    split
    · exact .refl
    · exact (Moves.line (s := s) ‹_› fun h => { h with hrxLow := fe, lineHold := fe }).trans (Moves.receiveByte ‹_› b fe)
  | gapTimeout =>
    refine ⟨_, rfl, ?_⟩
    split
    · rename_i h
      exact .discardFrame fun _ hunting => by rw [h] at hunting; cases hunting
    · exact .refl
  | replyStart =>
    refine ⟨_, rfl, ?_⟩
    split
    · rename_i reply _
      exact .one (.line s _ fun _ _ none => by rw [reply] at none; cases none)
    · exact .refl
  | replyEnd =>
    refine ⟨_, rfl, ?_⟩
    split
    · rename_i reply _
      have ended : Moves s s.endReply := .one (.line s _ fun _ _ none => by rw [reply] at none; cases none)
      split
      · exact ended.trans (Moves.one (.beginReset _ _))
      · exact ended
    · exact .refl
  | lineHoldReset =>
    refine ⟨_, rfl, ?_⟩
    split
    · exact .refl
    · exact (Moves.one (.beginReset s .lineHold)).trans (Moves.one (.line _ _ fun _ _ _ _ => ⟨rfl, rfl, rfl⟩))
  | pinReset => exact ⟨_, rfl, .one (.beginReset s .pin)⟩
  | powerOnReset => exact ⟨_, rfl, .one (.beginReset s .powerOn)⟩
  | resetRelease u r low =>
    refine ⟨_, rfl, ?_⟩
    split
    · exact .one (.released s u r low)
    · exact .refl
  | memoryCheckPassed =>
    refine ⟨_, rfl, ?_⟩
    split
    · exact .one (.passed s ‹_›)
    · exact .refl
  | memoryCheckFailed =>
    refine ⟨_, rfl, ?_⟩
    split
    · exact .one (.failed s ‹_›)
    · exact .refl
  | senseChange t good =>
    refine ⟨_, rfl, ?_⟩
    split
    · exact .refl
    · exact .one (.sense s t good)
  | service f run chain => exact ⟨_, run s, .whenReady (chain s)⟩

/-- Every command gives a next state, by a chain of moves. -/
theorem exec_moves (i : Instr) (s : State) : ∃ t, exec i s = .next t ∧ Moves s t := by
  cases request : i.request? with
  | some a =>
    obtain ⟨req, known, h⟩ := exec_request request
    exact ⟨_, h s, .deliver (.of_requestOf known) a.1 a.2 s⟩
  | none => exact (EventForm.of_event request).moves s

theorem Move.pending_eq {s t : State} (h : Move s t) : t.pending = s.pending := by
  cases h with
  | service _ h => exact h.frame.2
  | line => rfl
  | lineError => rfl
  | sense => rfl
  | beginReset => rfl
  | released => rfl
  | passed => rfl
  | failed => rfl

/-- Settles O2: every command is a chain of moves, and no move touches the queue. -/
theorem everyCommandRunsAndLeavesTheQueue : Obligations.EveryCommandRunsAndLeavesTheQueue := by
  intro i s
  obtain ⟨t, run, moves⟩ := exec_moves i s
  refine ⟨t, run, ?_⟩
  clear run
  induction moves with
  | refl => rfl
  | tail _ last ih => exact last.pending_eq.trans ih

/-- What every move keeps, and what does not speak of the queue of commands, every step keeps. -/
theorem keptByStep_of_move {inv : State → Prop} (queue : ∀ s l, inv s → inv { s with pending := l })
    (move : ∀ s t, Move s t → inv s → inv t) : KeptByStep inv := by
  intro s t hs run
  unfold step at run
  split at run
  · cases run
    exact hs
  · rename_i c rest _
    obtain ⟨u, next, moves⟩ := exec_moves c { s with pending := rest }
    rw [next] at run
    cases run
    clear next
    induction moves with
    | refl => exact queue s rest hs
    | tail _ last ih => exact move _ _ last ih

end Sys2Proof.Machine
end

section
/-! PROOFS. What the changes of trunk states and the end of an exchange do to each block: one equation for each operation. -/

namespace Sys2Proof.Machine

open Sys2Proof

/-! ## The nodes of a trunk -/

@[simp] theorem mem_trunkNodes (t : TrunkId) (n : NodeId) : n ∈ trunkNodes t ↔ trunkOf n = t := by
  revert t n
  decide

theorem trunkNodes_nodup (t : TrunkId) : (trunkNodes t).Nodup := by
  revert t
  decide

/-- The same change at several different places of a vector. -/
theorem foldl_upd_get {α : Type} {n : Nat} (f : α → α) (l : List (Fin n)) (hl : l.Nodup) (v : Vector α n) (i : Fin n) :
    (l.foldl (fun v j => upd v j f) v)[i] = if i ∈ l then f v[i] else v[i] := by
  induction l generalizing v with
  | nil => rfl
  | cons j l ih =>
    obtain ⟨hj, hl⟩ := List.nodup_cons.1 hl
    rw [List.foldl_cons, ih hl, upd_get]
    by_cases e : i = j
    · subst e
      rw [if_neg hj, if_pos rfl, if_pos (by simp)]
    · rw [if_neg e]
      simp [e]

theorem trunkNodes_upd_get {α : Type} (f : α → α) (t : TrunkId) (v : Vector α 24) (n : NodeId) :
    ((trunkNodes t).foldl (fun v j => upd v j f) v)[n] = if trunkOf n = t then f v[n] else v[n] := by
  rw [foldl_upd_get f _ (trunkNodes_nodup t)]
  simp only [mem_trunkNodes]

theorem forAll_modNode (f : NodeRecord → NodeRecord) (l : List NodeId) (s : State) :
    forAll (fun n => State.modNode n f) l s = { s with nodes := l.foldl (fun v j => upd v j f) s.nodes } := by
  induction l generalizing s with
  | nil => rfl
  | cons n l ih => exact ih _

theorem forAll_modNodeSched (f : NodeSchedule → NodeSchedule) (l : List NodeId) (s : State) :
    forAll (fun n => State.modNodeSched n f) l s = { s with nodeScheds := l.foldl (fun v j => upd v j f) s.nodeScheds } := by
  induction l generalizing s with
  | nil => rfl
  | cons n l ih => exact ih _

theorem forAll_setHeld (l : List NodeId) (s : State) :
    forAll (fun n => State.setHeld n none) l s = { s with held := l.foldl (fun v j => upd v j fun _ => none) s.held } := by
  induction l generalizing s with
  | nil => rfl
  | cons n l ih => exact ih _

/-! ## Changes of trunk state -/

/-- A node's schedule without its backoff (R77). -/
def NodeSchedule.cleared (g : NodeSchedule) : NodeSchedule := { g with expiry := none, inForce := false }

/-- A node record of a trunk that enters ACTIVE (R99). -/
def NodeRecord.unseenAgain (r : NodeRecord) : NodeRecord := { r with state := if r.state = .online then .unseen else r.state }

theorem State.clearBackoffs_eq (t : TrunkId) (s : State) : s.clearBackoffs t =
    { s with scheds := upd s.scheds t fun g => { g with announce := false }
             nodeScheds := (trunkNodes t).foldl (fun v j => upd v j NodeSchedule.cleared) s.nodeScheds } :=
  forAll_modNodeSched NodeSchedule.cleared _ _

/-- The entry to DISABLED, block by block (R113). -/
theorem State.enterDisabled_eq (t : TrunkId) (s : State) : s.enterDisabled t =
    { s with
      supplies := upd s.supplies t fun m => SupplyMonitor.reset m.senseGood
      trunks := upd s.trunks t fun c => { c with state := .disabled, wait := .none, orderExchange := false }
      engines := upd s.engines t fun _ => Engine.reset
      scheds := upd s.scheds t fun g => { g with announce := false }
      nodeScheds := (trunkNodes t).foldl (fun v j => upd v j NodeSchedule.cleared) s.nodeScheds
      meters := upd s.meters t fun m => { m with counts := .zero, wasDown := false, wasQuiet := false, severe := 0 } } := by
  unfold State.enterDisabled
  dsimp only
  rw [State.clearBackoffs_eq]
  rfl

/-- The entry to ACTIVE from DISABLED or DOWN, block by block (R77, R78, R99). -/
theorem State.enterActive_eq (t : TrunkId) (w : WaitIndication) (s : State) : s.enterActive t w =
    { s with
      trunks := upd s.trunks t fun c => { c with state := .active, wait := w, idleCount := 0 }
      scheds := upd s.scheds t fun _ => ⟨7, 7, 7, 0, 0, decide (s.trunks[t].mode ≠ 63)⟩
      nodes := (trunkNodes t).foldl (fun v j => upd v j NodeRecord.unseenAgain) s.nodes } := by
  have mode : (s.modTrunk t fun c => { c with state := .active, wait := w, idleCount := 0 }).trunks[t].mode = s.trunks[t].mode := by
    show (upd s.trunks t _)[t].mode = _
    rw [upd_same]
  unfold State.enterActive
  dsimp only
  rw [mode]
  exact forAll_modNode NodeRecord.unseenAgain _ _

theorem State.wake_eq (t : TrunkId) (s : State) : s.wake t = { s with trunks := (s.wake t).trunks } := by
  unfold State.wake
  split <;> rfl

theorem State.wake_of_trunks {t : TrunkId} {u s : State} (h : u.trunks = s.trunks) :
    u.wake t = { u with trunks := (s.wake t).trunks } := by
  unfold State.wake
  by_cases quiet : s.trunks[t].state = .quiet
  · rw [if_pos (h ▸ quiet), if_pos quiet, State.modTrunk_trunks, ← h]
    rfl
  · rw [if_neg (h ▸ quiet), if_neg quiet, ← h]

theorem State.wake_get (t k : TrunkId) (s : State) : (s.wake t).trunks[k] =
    if k = t ∧ s.trunks[t].state = .quiet then { s.trunks[t] with state := .active, wait := .none, idleCount := 0 }
    else s.trunks[k] := by
  unfold State.wake
  by_cases quiet : s.trunks[t].state = .quiet
  · rw [if_pos quiet, State.modTrunk_trunks, upd_get]
    by_cases e : k = t
    · subst e
      rw [if_pos rfl, if_pos ⟨rfl, quiet⟩]
    · rw [if_neg e, if_neg fun h => e h.1]
  · rw [if_neg quiet, if_neg fun h => quiet h.2]

theorem State.enterQueued_eq (tag : Byte) (s : State) : s.enterQueued tag =
    { s with table := (s.enterQueued tag).table, trunks := (s.enterQueued tag).trunks, meters := (s.enterQueued tag).meters } := by
  unfold State.enterQueued
  dsimp only
  split
  · rfl
  · rw [State.wake_eq]
    rfl

theorem submitPlaced_eq (o : Order) (s : State) : submitPlaced o s =
    { s with table := (submitPlaced o s).table, pool := (submitPlaced o s).pool, trunks := (submitPlaced o s).trunks
             meters := (submitPlaced o s).meters } := by
  unfold submitPlaced
  dsimp only
  cases o.kind.isBulk <;> simp only [if_true, if_false, Bool.false_eq_true]
  · split
    · rfl
    · rw [State.enterQueued_eq]
      rfl
  · split
    · rfl
    · rw [State.enterQueued_eq]
      rfl

theorem commitPlaced_eq (o : Order) (s : State) : commitPlaced o s =
    { s with table := (commitPlaced o s).table, pool := (commitPlaced o s).pool, trunks := (commitPlaced o s).trunks
             meters := (commitPlaced o s).meters } := by
  unfold commitPlaced
  rw [State.enterQueued_eq]
  rfl

/-! ## Frames of the end of an exchange -/

/-- What the Node Table and the scheduler leave as it was at the end of an exchange. -/
structure NodeFrame (s t : State) : Prop where
  pending : t.pending = s.pending
  startUp : t.startUp = s.startUp
  hostLine : t.hostLine = s.hostLine
  scheds : t.scheds = s.scheds
  engines : t.engines = s.engines
  trunks : t.trunks = s.trunks
  supplies : t.supplies = s.supplies
  attention : t.attention = s.attention
  interval : t.interval = s.interval
  claims : t.claims = s.claims

namespace NodeFrame

theorem refl (s : State) : NodeFrame s s := by constructor <;> rfl

theorem trans {a b c : State} (h : NodeFrame a b) (k : NodeFrame b c) : NodeFrame a c where
  pending := k.pending.trans h.pending
  startUp := k.startUp.trans h.startUp
  hostLine := k.hostLine.trans h.hostLine
  scheds := k.scheds.trans h.scheds
  engines := k.engines.trans h.engines
  trunks := k.trunks.trans h.trunks
  supplies := k.supplies.trans h.supplies
  attention := k.attention.trans h.attention
  interval := k.interval.trans h.interval
  claims := k.claims.trans h.claims

theorem ofOrder {s t : State} (h : OrderFrame s t) : NodeFrame s t :=
  ⟨h.pending, h.startUp, h.hostLine, h.scheds, h.engines, h.trunks, h.supplies, h.attention, h.interval, h.claims⟩

theorem modNode (n : NodeId) (f : NodeRecord → NodeRecord) (s : State) : NodeFrame s (s.modNode n f) := by constructor <;> rfl
theorem modNodeSched (n : NodeId) (f : NodeSchedule → NodeSchedule) (s : State) : NodeFrame s (s.modNodeSched n f) := by
  constructor <;> rfl

theorem isolationTest (n : NodeId) (s : State) : NodeFrame s (s.isolationTest n) := by
  unfold State.isolationTest
  dsimp only
  split
  · exact (((modNode n _ s).trans (ofOrder (.forAll _ OrderFrame.endIsolated _ _))).trans (ofOrder (.latch _ _))).trans
      (ofOrder (.count _ _ _))
  · exact refl s

theorem nodeOutcome (n : NodeId) (x : Exchange) (e : Ending) (s : State) : NodeFrame s (s.nodeOutcome n x e) := by
  unfold State.nodeOutcome
  dsimp only
  have reached := modNodeSched n NodeSchedule.reached s
  split
  · exact reached.trans (modNode n _ _)
  · exact reached.trans (modNode n _ _)
  · exact reached.trans (modNode n _ _)
  · split
    · exact reached.trans (modNode n _ _)
    · exact (reached.trans (modNode n _ _)).trans (isolationTest n _)

theorem schedulerOutcome (n : NodeId) (e : Ending) (s : State) : NodeFrame s (s.schedulerOutcome n e) := by
  unfold State.schedulerOutcome
  split
  · exact modNodeSched n _ s
  · exact refl s

end NodeFrame

/-- The end of orders touches the order blocks alone. -/
theorem OrderFrame.eq {s t : State} (h : OrderFrame s t) :
    t = { s with table := t.table, pool := t.pool, held := t.held, completions := t.completions, notices := t.notices
                 meters := t.meters } := by
  obtain ⟨pending, startUp, hostLine, nodes, nodeScheds, scheds, engines, trunks, supplies, attention, interval, claims, -, -, -,
    -⟩ := h
  cases s
  cases t
  simp_all

/-- The parts of the outcome of an exchange before the Attention List takes its code. -/
def State.nodeTaken (t : TrunkId) (n : NodeId) (x : Exchange) (e : Ending) (s : State) : State :=
  ((((s.count t (Counters.exchangeEnd x e (s.bytesMoved x e))).modEngine t (Engine.exchangeEnded e.isAck)).orderOutcome
    x e).nodeOutcome n x e).schedulerOutcome n e

theorem State.takeOutcome_eq (t : TrunkId) (n : NodeId) (x : Exchange) (e : Ending) (a : Byte) (s : State) :
    s.takeOutcome t n x e a = (s.nodeTaken t n x e).attentionOutcome n a := rfl

theorem NodeFrame.nodeTaken (t : TrunkId) (n : NodeId) (x : Exchange) (e : Ending) (s : State) :
    NodeFrame (s.modEngine t (Engine.exchangeEnded e.isAck)) (s.nodeTaken t n x e) := by
  have counted (u : State) (h : OrderFrame s u) :
      NodeFrame (s.modEngine t (Engine.exchangeEnded e.isAck)) (u.modEngine t (Engine.exchangeEnded e.isAck)) := by
    constructor <;> simp [h.pending, h.startUp, h.hostLine, h.scheds, h.engines, h.trunks, h.supplies, h.attention, h.interval,
      h.claims]
  exact (((counted _ (.count t _ s)).trans (ofOrder (.orderOutcome x e _))).trans (nodeOutcome n x e _)).trans
    (schedulerOutcome n e _)

/-- The Attention List takes a code, block by block (R121, R138, R142). -/
theorem State.attentionOutcome_eq (n : NodeId) (a : Byte) (s : State) : s.attentionOutcome n a =
    { s with attention := if a = 0 then s.attention else takeAttention n a s.attention
             notices := if a = 0 then s.notices
               else (s.levelSet 0x0002 (attentionLevel (takeAttention n a s.attention))).notices
             trunks := if a = 0 then s.trunks else (s.wake (trunkOf n)).trunks } := by
  unfold State.attentionOutcome
  by_cases none : a = 0
  · simp only [if_pos none]
  · simp only [if_neg none]
    exact State.wake_of_trunks rfl

theorem State.takeOutcome_engines (t : TrunkId) (n : NodeId) (x : Exchange) (e : Ending) (a : Byte) (s : State) :
    (s.takeOutcome t n x e a).engines = upd s.engines t (Engine.exchangeEnded e.isAck) := by
  rw [State.takeOutcome_eq, State.attentionOutcome_eq]
  exact (NodeFrame.nodeTaken t n x e s).engines

theorem State.takeOutcome_trunks (t : TrunkId) (n : NodeId) (x : Exchange) (e : Ending) (a : Byte) (s : State) :
    (s.takeOutcome t n x e a).trunks = if a = 0 then s.trunks else (s.wake (trunkOf n)).trunks := by
  have same : (s.nodeTaken t n x e).trunks = s.trunks := (NodeFrame.nodeTaken t n x e s).trunks
  rw [State.takeOutcome_eq, State.attentionOutcome_eq]
  show (if a = 0 then (s.nodeTaken t n x e).trunks else ((s.nodeTaken t n x e).wake (trunkOf n)).trunks) = _
  unfold State.wake
  rw [same]
  split
  · rfl
  · split
    · simp only [State.modTrunk_trunks, same]
    · exact same

end Sys2Proof.Machine
end

section
/-! PROOFS. The invariants of the interval and of the trunks. -/

namespace Sys2Proof.Machine

open Sys2Proof

/-! ## The faults of a supply, block by block -/

/-- The abort of an exchange touches the meters, the engine and the held exchanges (R73). -/
theorem State.abortExchange_eq (t : TrunkId) (s : State) : s.abortExchange t =
    { s with meters := (s.abortExchange t).meters
             engines := upd s.engines t fun _ => Engine.reset
             held := (trunkNodes t).foldl (fun v j => upd v j fun _ => none) s.held } := by
  have aborted (u : State) (h : u = { s with meters := u.meters }) :
      forAll (fun n => State.setHeld n none) (trunkNodes t) (u.modEngine t fun _ => Engine.reset) =
        { s with meters := u.meters
                 engines := upd s.engines t fun _ => Engine.reset
                 held := (trunkNodes t).foldl (fun v j => upd v j fun _ => none) s.held } := by
    rw [forAll_setHeld, h]
    rfl
  have counted (f : Counters → Counters) : s.count t f = { s with meters := (s.count t f).meters } := by
    unfold State.count
    split <;> rfl
  unfold State.abortExchange
  dsimp only
  split
  · split
    · rw [aborted _ (counted _)]
    · rw [aborted s rfl]
  · rw [aborted s rfl]

/-- The orders of a running trunk ended by its fault (R115). -/
def State.trunkOrdersEnded (t : TrunkId) (s : State) : State :=
  forAll (fun tag => State.endOrder tag .trunkDown 0) ((s.abortExchange t).trunkQueueTags t) (s.abortExchange t)

theorem OrderFrame.trunkOrdersEnded (t : TrunkId) (s : State) : OrderFrame (s.abortExchange t) (s.trunkOrdersEnded t) :=
  .forAll _ (fun tag s => .endOrder tag _ _ s) _ _

/-- The trunk goes DOWN, with the notice of its fault (R109, R115). -/
def State.wentDown (t : TrunkId) (s : State) : State :=
  ((((s.modTrunk t fun c => { c with state := .down, wait := .recovery }).modSupply t fun m =>
    { m with faultFilter := false, settleTimer := false }).clearBackoffs t).modMeter t fun m =>
      { m with wasDown := true }).faultNotice t

theorem State.wentDown_eq (t : TrunkId) (s : State) : s.wentDown t =
    { s with
      trunks := upd s.trunks t fun c => { c with state := .down, wait := .recovery }
      supplies := upd s.supplies t fun m => { m with faultFilter := false, settleTimer := false }
      scheds := upd s.scheds t fun g => { g with announce := false }
      nodeScheds := (trunkNodes t).foldl (fun v j => upd v j NodeSchedule.cleared) s.nodeScheds
      meters := upd s.meters t fun m => { m with wasDown := true }
      notices := (s.faultNotice t).notices } := by
  unfold State.wentDown
  rw [State.clearBackoffs_eq]
  rfl

theorem State.faultRunning_eq (t : TrunkId) (s : State) : s.faultRunning t = (s.trunkOrdersEnded t).wentDown t := rfl

/-- The order of an exchange aborted in STOPPING ended (R116). -/
def State.stoppingOrderEnded (t : TrunkId) (s : State) : State :=
  match s.engines[t].exch.bind Exchange.order with
  | some tag => (s.abortExchange t).endOrder tag .cancelled 0
  | none => s.abortExchange t

theorem OrderFrame.stoppingOrderEnded (t : TrunkId) (s : State) : OrderFrame (s.abortExchange t) (s.stoppingOrderEnded t) := by
  unfold State.stoppingOrderEnded
  split
  · exact .endOrder _ _ _ _
  · exact .refl _

theorem State.faultStopping_eq (t : TrunkId) (s : State) :
    s.faultStopping t = ((s.stoppingOrderEnded t).enterDisabled t).faultNotice t := rfl

/-- The end of an exchange, by the trunk's state (R71, R112). -/
theorem State.exchangeEnd_eq (t : TrunkId) (n : NodeId) (x : Exchange) (e : Ending) (a : Byte) (s : State) :
    s.exchangeEnd t n x e a = if (s.takeOutcome t n x e a).trunks[t].state = .stopping
      then (s.takeOutcome t n x e a).enterDisabled t else s.takeOutcome t n x e a := rfl

theorem State.takeOutcome_interval (t : TrunkId) (n : NodeId) (x : Exchange) (e : Ending) (a : Byte) (s : State) :
    (s.takeOutcome t n x e a).interval = s.interval := by
  rw [State.takeOutcome_eq, State.attentionOutcome_eq]
  exact (NodeFrame.nodeTaken t n x e s).interval

theorem submitPlaced_interval (o : Order) (s : State) : (submitPlaced o s).interval = s.interval := by rw [submitPlaced_eq]

theorem commitPlaced_interval (o : Order) (s : State) : (commitPlaced o s).interval = s.interval := by rw [commitPlaced_eq]

theorem State.enterActive_interval (t : TrunkId) (w : WaitIndication) (s : State) : (s.enterActive t w).interval = s.interval := by
  rw [State.enterActive_eq]

theorem State.abortExchange_interval (t : TrunkId) (s : State) : (s.abortExchange t).interval = s.interval := by
  rw [State.abortExchange_eq]

theorem State.wentDown_interval (t : TrunkId) (s : State) : (s.wentDown t).interval = s.interval := by
  rw [State.wentDown_eq]

theorem State.faultNotice_interval (t : TrunkId) (s : State) : (s.faultNotice t).interval = s.interval := rfl

theorem State.enterDisabled_interval (t : TrunkId) (s : State) : (s.enterDisabled t).interval = s.interval := by
  rw [State.enterDisabled_eq]

/-! ## The interval -/

/-- A part in service keeps its interval in range (R152). -/
theorem Service.interval_inRange {s t : State} (h : Service s t) (range : s.interval.inRange) : t.interval.inRange := by
  have of {u : State} (same : u.interval = s.interval) : u.interval.inRange := same ▸ range
  cases h with
  | interval i h => exact h range
  | take r => exact of (OrderFrame.post _ _).interval
  | submit p o => exact of (submitPlaced_interval o s)
  | commit tag o => exact of (commitPlaced_interval o s)
  | claim m tag => exact of (OrderFrame.endOrMark m tag s).interval
  | enable t => exact of (State.enterActive_interval t _ _)
  | recover t => exact of (State.enterActive_interval t _ _)
  | disable t => exact of (State.enterDisabled_interval t s)
  | start n o burst => exact of (GrantFrame.startOrderExchange n o burst s).interval
  | exchangeEnd t n x _ e a =>
    refine of ?_
    rw [State.exchangeEnd_eq]
    split
    · rw [State.enterDisabled_interval, State.takeOutcome_interval]
    · exact State.takeOutcome_interval t n x e a s
  | faultRunning t =>
    refine of ?_
    rw [State.faultRunning_eq, State.wentDown_interval, (OrderFrame.trunkOrdersEnded t s).interval,
      State.abortExchange_interval]
  | faultStopping t =>
    refine of ?_
    rw [State.faultStopping_eq, State.faultNotice_interval, State.enterDisabled_interval,
      (OrderFrame.stoppingOrderEnded t s).interval, State.abortExchange_interval]
  | aside | errorCount | notices | attention | settings | fill | retire | control | sched | idle | settle | stop | engine =>
    exact of rfl

theorem intervalInv_iff (s : State) : s.intervalInv ↔ s.interval.inRange ∧
    ((s.startUp.part = .starting ∨ s.startUp.part = .failed) → s.interval.tick = 0 ∧ s.interval.position = 0) := by
  unfold State.intervalInv IntervalUnit.inRange
  tauto

theorem intervalInvKept : KeptByStep State.intervalInv := by
  refine keptByStep_of_move (fun s l h => h) fun s t move inv => ?_
  rw [intervalInv_iff] at inv ⊢
  obtain ⟨range, start⟩ := inv
  cases move with
  | service ready h =>
    refine ⟨h.interval_inRange range, fun part => ?_⟩
    rw [h.frame.1, ready] at part
    rcases part with part | part <;> cases part
  | line => exact ⟨range, start⟩
  | lineError => exact ⟨range, start⟩
  | sense => exact ⟨range, start⟩
  | beginReset k => exact ⟨range, fun part => by rcases part with part | part <;> cases part⟩
  | released => exact ⟨⟨Nat.le_refl 100, (by decide : 100 ≤ 6000), (by decide : 0 < 100), nofun⟩, fun _ => ⟨rfl, rfl⟩⟩
  | passed h => exact ⟨range, fun part => by rcases part with part | part <;> cases part⟩
  | failed h => exact ⟨range, fun _ => start (.inl h)⟩

/-! ## The trunks -/

/-- What one trunk's state allows, the body of the invariant of 6.1 (R107, R108, R52, R78). -/
abbrev TrunkOk (part : PartState) (c : TrunkControl) (m : SupplyMonitor) (e : Engine) (announce : Bool) : Prop :=
  (c.wait = .settle → c.state = .active) ∧
  (c.wait = .recovery ↔ c.state = .down) ∧
  (part ≠ .inReset → (m.power = true ↔ c.state ≠ .disabled) ∧ (c.state = .stopping → e.exch ≠ none)) ∧
  (m.power = true → m.supplyLow = !m.senseGood) ∧
  (m.power = false → m.supplyLow = false ∧ m.faultFilter = false ∧ m.settleTimer = false ∧ m.recoveryTimer = false) ∧
  (e.exch ≠ none → c.state = .active ∨ c.state = .quiet ∨ c.state = .stopping) ∧
  (e.phase = .idle → e.exch = none) ∧
  (announce = true → c.state = .active ∨ c.state = .quiet)

theorem trunkInv_iff (s : State) : s.trunkInv ↔
    ∀ t : TrunkId, TrunkOk s.startUp.part s.trunks[t] s.supplies[t] s.engines[t] s.scheds[t].announce := Iff.rfl

/-- A change of one trunk's blocks keeps the invariant when it holds of that trunk afterwards. -/
theorem trunkInv_of_upd {s u : State} {t : TrunkId} {c : TrunkControl → TrunkControl} {m : SupplyMonitor → SupplyMonitor}
    {e : Engine → Engine} {g : Scheduler → Scheduler} (inv : s.trunkInv) (part : u.startUp.part = s.startUp.part)
    (trunks : u.trunks = upd s.trunks t c) (supplies : u.supplies = upd s.supplies t m)
    (engines : u.engines = upd s.engines t e) (scheds : u.scheds = upd s.scheds t g)
    (ok : TrunkOk s.startUp.part s.trunks[t] s.supplies[t] s.engines[t] s.scheds[t].announce →
      TrunkOk s.startUp.part (c s.trunks[t]) (m s.supplies[t]) (e s.engines[t]) (g s.scheds[t]).announce) : u.trunkInv := by
  rw [trunkInv_iff] at inv ⊢
  intro k
  rw [part, trunks, supplies, engines, scheds]
  by_cases own : k = t
  · subst own
    simp only [upd_same]
    exact ok (inv k)
  · simp only [upd_other _ _ _ _ own]
    exact inv k

theorem trunkInv_of_same {s u : State} (inv : s.trunkInv) (part : u.startUp.part = s.startUp.part) (trunks : u.trunks = s.trunks)
    (supplies : u.supplies = s.supplies) (engines : u.engines = s.engines) (scheds : u.scheds = s.scheds) : u.trunkInv := by
  rw [trunkInv_iff] at inv ⊢
  intro k
  rw [part, trunks, supplies, engines, scheds]
  exact inv k

theorem trunkInv_wake {s : State} (t : TrunkId) (inv : s.trunkInv) : (s.wake t).trunkInv := by
  unfold State.wake
  split
  · rename_i quiet
    refine trunkInv_of_upd inv (t := t) (c := fun c => { c with state := .active, wait := .none, idleCount := 0 })
      rfl rfl (upd_id _ _).symm (upd_id _ _).symm (upd_id _ _).symm fun ok => ?_
    unfold TrunkOk at ok ⊢
    rw [quiet] at ok
    simp_all
  · exact inv

theorem enterQueued_trunks (tag : Byte) (s : State) :
    (s.enterQueued tag).trunks = s.trunks ∨ ∃ t, (s.enterQueued tag).trunks = (s.wake t).trunks := by
  unfold State.enterQueued
  dsimp only
  split
  · exact .inl rfl
  · rename_i o _
    refine .inr ⟨trunkOf o.node, ?_⟩
    show (State.wake (trunkOf o.node) _).trunks = _
    rw [State.wake_of_trunks]
    rfl

theorem trunkInv_of_woken {s u : State} (inv : s.trunkInv) (part : u.startUp.part = s.startUp.part)
    (trunks : u.trunks = s.trunks ∨ ∃ t, u.trunks = (s.wake t).trunks) (supplies : u.supplies = s.supplies)
    (engines : u.engines = s.engines) (scheds : u.scheds = s.scheds) : u.trunkInv := by
  rcases trunks with trunks | ⟨t, trunks⟩
  · exact trunkInv_of_same inv part trunks supplies engines scheds
  · have woken : ({ s with trunks := (s.wake t).trunks } : State).trunkInv := by
      rw [← State.wake_eq]
      exact trunkInv_wake t inv
    exact trunkInv_of_same woken part trunks supplies engines scheds

theorem submitPlaced_trunks (o : Order) (s : State) :
    (submitPlaced o s).trunks = s.trunks ∨ ∃ t, (submitPlaced o s).trunks = (s.wake t).trunks := by
  have entered (tag : Byte) (u : State) (h : u.trunks = s.trunks) :
      (u.enterQueued tag).trunks = s.trunks ∨ ∃ t, (u.enterQueued tag).trunks = (s.wake t).trunks := by
    rcases enterQueued_trunks tag u with same | ⟨t, woken⟩
    · exact .inl (same.trans h)
    · refine .inr ⟨t, woken.trans ?_⟩
      rw [State.wake_of_trunks h]
  have placed (u : State) (h : u.trunks = s.trunks) (p : Order) :
      (if o.kind = .bulkSend then u.modTable (OrderTable.add p) else (u.modTable (OrderTable.add p)).enterQueued o.tag).trunks =
        s.trunks ∨ ∃ t, (if o.kind = .bulkSend then u.modTable (OrderTable.add p)
          else (u.modTable (OrderTable.add p)).enterQueued o.tag).trunks = (s.wake t).trunks := by
    split
    · exact .inl h
    · exact entered o.tag _ h
  apply placed
  split <;> rfl

theorem trunkInv_submitPlaced {s : State} (o : Order) (inv : s.trunkInv) : (submitPlaced o s).trunkInv := by
  have woken := submitPlaced_trunks o s
  refine trunkInv_of_woken inv ?_ woken ?_ ?_ ?_ <;> rw [submitPlaced_eq]

theorem trunkInv_commitPlaced {s : State} (o : Order) (inv : s.trunkInv) : (commitPlaced o s).trunkInv := by
  have woken : (commitPlaced o s).trunks = s.trunks ∨ ∃ t, (commitPlaced o s).trunks = (s.wake t).trunks := by
    rcases enterQueued_trunks o.tag (s.modPool fun p => o.chain.foldl (fun p g => p.setOwner .trunkSide g) p) with same | ⟨t, woken⟩
    · exact .inl same
    · refine .inr ⟨t, woken.trans ?_⟩
      rw [State.wake_of_trunks]
      rfl
  refine trunkInv_of_woken inv ?_ woken ?_ ?_ ?_ <;> rw [commitPlaced_eq]

theorem trunkInv_ofOrder {s u : State} (frame : OrderFrame s u) (inv : s.trunkInv) : u.trunkInv :=
  trunkInv_of_same inv (by rw [frame.startUp]) frame.trunks frame.supplies frame.engines frame.scheds

theorem trunkInv_enterDisabled {s u : State} (t : TrunkId) (inv : s.trunkInv) (part : u.startUp.part = s.startUp.part)
    (trunks : u.trunks = s.trunks) (supplies : u.supplies = s.supplies) (scheds : u.scheds = s.scheds)
    (engines : ∃ f, u.engines = upd s.engines t f) : (u.enterDisabled t).trunkInv := by
  obtain ⟨f, engines⟩ := engines
  rw [State.enterDisabled_eq]
  refine trunkInv_of_upd inv (t := t) (c := fun c => { c with state := .disabled, wait := .none, orderExchange := false })
    (m := fun m => SupplyMonitor.reset m.senseGood) (e := fun _ => Engine.reset) (g := fun g => { g with announce := false })
    part (by rw [← trunks]) (by rw [← supplies]) ?_ (by rw [← scheds]) fun ok => ?_
  · simp only [engines, upd]
    simp
  · simp [TrunkOk, SupplyMonitor.reset, Engine.reset]

/-- An exchange ends with a trunk that may have been woken (R71, R112). -/
theorem trunkInv_exchangeEnd {s : State} (t : TrunkId) (n : NodeId) (x : Exchange) (e : Ending) (a : Byte) (inv : s.trunkInv) :
    (s.exchangeEnd t n x e a).trunkInv := by
  have frame := NodeFrame.nodeTaken t n x e s
  have woken : ({ s with trunks := (s.takeOutcome t n x e a).trunks } : State).trunkInv := by
    rw [State.takeOutcome_trunks]
    split
    · exact inv
    · rw [← State.wake_eq]
      exact trunkInv_wake _ inv
  have part : (s.takeOutcome t n x e a).startUp.part = s.startUp.part := by rw [(ServiceFrame.takeOutcome t n x e a s).startUp]
  have supplies : (s.takeOutcome t n x e a).supplies = s.supplies := by
    rw [State.takeOutcome_eq, State.attentionOutcome_eq]
    exact frame.supplies
  have scheds : (s.takeOutcome t n x e a).scheds = s.scheds := by
    rw [State.takeOutcome_eq, State.attentionOutcome_eq]
    exact frame.scheds
  have engines := State.takeOutcome_engines t n x e a s
  rw [State.exchangeEnd_eq]
  split
  case isTrue => exact trunkInv_enterDisabled t woken part rfl supplies scheds ⟨_, engines⟩
  case isFalse running =>
    refine trunkInv_of_upd woken (t := t) part (upd_id _ _).symm (supplies.trans (upd_id _ _).symm) engines
      (scheds.trans (upd_id _ _).symm) fun ok => ?_
    dsimp only [TrunkOk, Engine.exchangeEnded] at ok ⊢
    simp_all

theorem trunkInv_abortExchange {s u : State} (t : TrunkId) (frame : OrderFrame (s.abortExchange t) u) :
    u.startUp = s.startUp ∧ u.trunks = s.trunks ∧ u.supplies = s.supplies ∧ u.scheds = s.scheds ∧
      u.engines = upd s.engines t fun _ => Engine.reset := by
  rw [frame.startUp, frame.trunks, frame.supplies, frame.scheds, frame.engines, State.abortExchange_eq]
  exact ⟨rfl, rfl, rfl, rfl, rfl⟩

theorem trunkInv_faultRunning {s : State} (t : TrunkId) (inv : s.trunkInv) (running : s.inService t) :
    (s.faultRunning t).trunkInv := by
  obtain ⟨startUp, trunks, supplies, scheds, engines⟩ := trunkInv_abortExchange t (.trunkOrdersEnded t s)
  rw [State.faultRunning_eq, State.wentDown_eq]
  refine trunkInv_of_upd inv (t := t) (by rw [← startUp]) (by rw [← trunks]) (by rw [← supplies]) engines (by rw [← scheds])
    fun ok => ?_
  unfold State.inService at running
  dsimp only [TrunkOk, Engine.reset] at ok ⊢
  rcases running with running | running <;> simp_all

theorem trunkInv_faultStopping {s : State} (t : TrunkId) (inv : s.trunkInv) : (s.faultStopping t).trunkInv := by
  obtain ⟨startUp, trunks, supplies, scheds, engines⟩ := trunkInv_abortExchange t (.stoppingOrderEnded t s)
  rw [State.faultStopping_eq]
  have disabled : ((s.stoppingOrderEnded t).enterDisabled t).trunkInv :=
    trunkInv_enterDisabled t inv (by rw [startUp]) trunks supplies scheds ⟨_, engines⟩
  exact trunkInv_of_same disabled rfl rfl rfl rfl rfl

theorem trunkInv_engine {s : State} {t : TrunkId} {f : Engine → Engine} (h : EngineChange s t (f s.engines[t]))
    (inv : s.trunkInv) : (s.modEngine t f).trunkInv := by
  refine trunkInv_of_upd inv (t := t) (c := fun c => c) (m := fun m => m) (e := f) (g := fun g => g) rfl
    (upd_id _ _).symm (upd_id _ _).symm rfl (upd_id _ _).symm fun ok => ?_
  obtain ⟨exch, idle, -⟩ := h
  generalize f s.engines[t] = e at exch idle ⊢
  unfold State.inService at exch
  unfold TrunkOk at ok ⊢
  refine ⟨ok.1, ok.2.1, fun awake => ⟨(ok.2.2.1 awake).1, fun stopping => ?_⟩, ok.2.2.2.1, ok.2.2.2.2.1, fun some => ?_, idle,
    ok.2.2.2.2.2.2.2⟩
  · have busy := (ok.2.2.1 awake).2 stopping
    rcases exch with ⟨x, y, hx, -⟩ | ⟨x, hx, -⟩ | ⟨-, none | running⟩
    · rw [hx]; nofun
    · rw [hx]; nofun
    · exact absurd none busy
    · exact absurd stopping running
  · rcases exch with ⟨x, y, -, hy, -⟩ | ⟨x, -, -, -, running⟩ | ⟨none, -⟩
    · exact ok.2.2.2.2.2.1 (by rw [hy]; nofun)
    · exact running.imp id .inl
    · exact absurd none some

/-- The exchange that starts for a node's head order (R51, R63). -/
def State.orderExchange (n : NodeId) (o : Order) (s : State) : Exchange :=
  match s.held[n] with
  | some h => if h.tag = o.tag then h.resume n (s.orderPayload o)
      else s.newExchange n o.kind.exchangeType (some o.tag) (s.orderPayload o)
  | none => s.newExchange n o.kind.exchangeType (some o.tag) (s.orderPayload o)

/-- The start of an order's exchange, block by block (R10, R53, R87, R120). -/
theorem State.startOrderExchange_eq (n : NodeId) (o : Order) (burst : Nat) (s : State) : s.startOrderExchange n o burst =
    { s with
      held := (s.dropHeld o).held
      table := s.table.update o.tag fun o => { o with state := .active }
      trunks := upd s.trunks (trunkOf n) fun c => { c with orderExchange := true }
      engines := upd s.engines (trunkOf n) fun _ =>
        ⟨.sending, some (s.orderExchange n o), some ⟨.order, some n, some o.tag, burst, false⟩, [], false, 0⟩ } := by
  have dropped : s.dropHeld o = { s with held := (s.dropHeld o).held } := by
    unfold State.dropHeld
    split
    · split <;> rfl
    · rfl
  unfold State.startOrderExchange
  dsimp only
  rw [dropped]
  rfl

/-- What an interval end does to a trunk's state (R120): an ACTIVE trunk without a wait may become QUIET. -/
theorem State.idleUpdate_eq (t : TrunkId) (s : State) : ∃ f, s.idleUpdate t = s.modTrunk t f ∧
    ∀ c, (f c).wait = c.wait ∧
      ((f c).state = c.state ∨ (c.state = .active ∧ c.wait = .none ∧ (f c).state = .quiet)) := by
  have quieted (c : TrunkControl) (p : Prop) [Decidable p] (h : p → c.state = .active ∧ c.wait = .none) :
      (if p then .quiet else c.state) = c.state ∨
        (c.state = .active ∧ c.wait = .none ∧ (if p then .quiet else c.state) = TrunkState.quiet) := by
    split
    · exact .inr ⟨(h ‹_›).1, (h ‹_›).2, rfl⟩
    · exact .inl rfl
  exact ⟨_, rfl, fun c => ⟨rfl, quieted c _ fun h => ⟨h.1, h.2.1⟩⟩⟩

theorem trunkInv_enterActive {s : State} (t : TrunkId) (w : WaitIndication) (m : SupplyMonitor → SupplyMonitor)
    (inv : s.trunkInv)
    (ok : ∀ a b : Bool, TrunkOk s.startUp.part s.trunks[t] s.supplies[t] s.engines[t] a →
      TrunkOk s.startUp.part { s.trunks[t] with state := .active, wait := w, idleCount := 0 } (m s.supplies[t]) s.engines[t] b) :
    ((s.modSupply t m).enterActive t w).trunkInv := by
  rw [State.enterActive_eq]
  exact trunkInv_of_upd inv (t := t) (c := fun c => { c with state := .active, wait := w, idleCount := 0 }) (m := m)
    (e := fun e => e) (g := fun _ => ⟨7, 7, 7, 0, 0, decide (s.trunks[t].mode ≠ 63)⟩) rfl rfl rfl (upd_id _ _).symm rfl
    (ok _ _)

theorem trunkInv_start {s : State} (n : NodeId) (o : Order) (burst : Nat) (inv : s.trunkInv)
    (running : s.inService (trunkOf n)) : (s.startOrderExchange n o burst).trunkInv := by
  rw [State.startOrderExchange_eq]
  refine trunkInv_of_upd inv (t := trunkOf n) (c := fun c => { c with orderExchange := true }) (m := fun m => m)
    (e := fun _ => ⟨.sending, some (s.orderExchange n o), some ⟨.order, some n, some o.tag, burst, false⟩, [], false, 0⟩)
    (g := fun g => g) rfl rfl (upd_id _ _).symm rfl (upd_id _ _).symm fun ok => ?_
  unfold State.inService at running
  dsimp only [TrunkOk] at ok ⊢
  rcases running with running | running <;> simp_all

namespace TrunkOk

variable {part : PartState} {c d : TrunkControl} {m : SupplyMonitor} {e : Engine} {a b : Bool}

/-- Quiet entry (R120). -/
theorem quieted (ok : TrunkOk part c m e a) (wait : d.wait = c.wait) (active : c.state = .active) (none : c.wait = .none)
    (quiet : d.state = .quiet) : TrunkOk part d m e a := by
  obtain ⟨-, -, power, low, off, -, idle, -⟩ := ok
  rw [none] at wait
  rw [active] at power
  unfold TrunkOk
  rw [wait, quiet]
  exact ⟨nofun, by decide, fun awake => ⟨by simpa using (power awake).1, nofun⟩, low, off, fun _ => .inr (.inl rfl), idle,
    fun _ => .inr rfl⟩

/-- The entry to ACTIVE with the power on, from DISABLED or DOWN (R110, R117). -/
theorem entered (ok : TrunkOk part c m e a) {v : SupplyMonitor} {w : WaitIndication} (state : d.state = .active) (wait : d.wait = w)
    (hw : w ≠ .recovery) (power : v.power = true) (low : v.supplyLow = !v.senseGood) : TrunkOk part d v e b := by
  unfold TrunkOk
  rw [state, wait, power]
  exact ⟨fun _ => rfl, ⟨fun h => absurd h hw, nofun⟩, fun _ => ⟨by decide, nofun⟩, fun _ => low, nofun, fun _ => .inl rfl,
    ok.2.2.2.2.2.2.1, fun _ => .inl rfl⟩

/-- The end of the settle wait (R111). -/
theorem settled (ok : TrunkOk part c m e a) (active : c.state = .active) :
    TrunkOk part { c with wait := .none } { m with settleTimer := false } e a := by
  obtain ⟨-, -, power, low, off, busy, idle, announce⟩ := ok
  refine ⟨nofun, ⟨nofun, fun down => ?_⟩, power, low, fun h => ?_, busy, idle, announce⟩
  · rw [active] at down
    cases down
  · obtain ⟨h1, h2, -, h4⟩ := off h
    exact ⟨h1, h2, rfl, h4⟩

/-- The entry to STOPPING with an exchange in flight (R112). -/
theorem stopped (ok : TrunkOk part c m e a) (busy : e.exch ≠ none) (running : c.state = .active ∨ c.state = .quiet) :
    TrunkOk part { c with state := .stopping, wait := .none } { m with settleTimer := false } e false := by
  obtain ⟨-, -, power, low, off, -, idle, -⟩ := ok
  have on : c.state ≠ .disabled := by rcases running with h | h <;> rw [h] <;> decide
  refine ⟨nofun, by simp, fun awake => ⟨?_, fun _ => busy⟩, low, fun h => ?_, fun _ => .inr (.inr rfl), idle, nofun⟩
  · simpa [on] using (power awake).1
  · obtain ⟨h1, h2, -, h4⟩ := off h
    exact ⟨h1, h2, rfl, h4⟩

end TrunkOk

/-- A part in service keeps what each trunk state allows. -/
theorem Service.trunkInv {s u : State} (h : Service s u) (ready : s.startUp.part = .ready) (inv : s.trunkInv) : u.trunkInv := by
  have own (t : TrunkId) := fun (c : TrunkControl → TrunkControl) m e g => trunkInv_of_upd (u := u) (t := t) (c := c) (m := m)
    (e := e) (g := g) inv
  cases h with
  | aside | errorCount | notices | attention | settings | fill | retire | interval => exact inv
  | take r => exact trunkInv_ofOrder ((OrderFrame.post _ _).trans (.takeCompletionsLevel _)) inv
  | submit p o => exact trunkInv_submitPlaced o inv
  | commit tag o => exact trunkInv_commitPlaced o inv
  | claim m tag => exact trunkInv_ofOrder (.endOrMark m tag s) inv
  | control t f state wait =>
    refine own t f id id id rfl rfl (by simp [upd]) (by simp [upd]) (by simp [upd]) fun ok => ?_
    unfold TrunkOk at ok ⊢
    rw [state, wait]
    exact ok
  | sched t f h =>
    refine own t id id id f rfl (by simp [upd]) (by simp [upd]) (by simp [upd]) rfl fun ok => ?_
    refine ⟨ok.1, ok.2.1, ok.2.2.1, ok.2.2.2.1, ok.2.2.2.2.1, ok.2.2.2.2.2.1, ok.2.2.2.2.2.2.1, fun announce => ?_⟩
    exact (h _ announce).elim ok.2.2.2.2.2.2.2 id
  | idle t =>
    obtain ⟨f, update, change⟩ := s.idleUpdate_eq t
    rw [update]
    refine trunkInv_of_upd inv (t := t) (c := f) (m := fun m => m) (e := fun e => e) (g := fun g => g) rfl rfl (upd_id _ _).symm
      (upd_id _ _).symm (upd_id _ _).symm fun ok => ?_
    obtain ⟨wait, state⟩ := change s.trunks[t]
    generalize f s.trunks[t] = c at wait state ⊢
    rcases state with state | ⟨active, none, quiet⟩
    · unfold TrunkOk at ok ⊢
      rw [wait, state]
      exact ok
    · exact TrunkOk.quieted ok wait active none quiet
  | enable t disabled => exact trunkInv_enterActive t .settle _ inv fun a b ok => TrunkOk.entered (w := .settle) ok rfl rfl nofun rfl rfl
  | recover t down =>
    refine trunkInv_enterActive t .none _ inv fun a b ok => ?_
    have power : s.supplies[t].power = true := (ok.2.2.1 (by rw [ready]; decide)).1.2 (by rw [down]; decide)
    exact TrunkOk.entered (w := .none) ok rfl rfl nofun power (ok.2.2.2.1 power)
  | settle t active =>
    exact trunkInv_of_upd inv (t := t) (c := fun c => { c with wait := .none }) (m := fun m => { m with settleTimer := false })
      (e := fun e => e) (g := fun g => g) rfl rfl rfl (upd_id _ _).symm (upd_id _ _).symm fun ok => TrunkOk.settled ok active
  | stop t busy running =>
    exact trunkInv_of_upd inv (t := t) (c := fun c => { c with state := .stopping, wait := .none })
      (m := fun m => { m with settleTimer := false }) (e := fun e => e) (g := fun g => { g with announce := false })
      rfl rfl rfl (upd_id _ _).symm rfl fun ok => TrunkOk.stopped ok busy running
  | disable t =>
    exact trunkInv_enterDisabled t inv rfl rfl rfl rfl ⟨fun e => e, (upd_id _ _).symm⟩
  | engine t f h => exact trunkInv_engine h inv
  | start n o burst _ _ running => exact trunkInv_start n o burst inv running
  | exchangeEnd t n x _ e a => exact trunkInv_exchangeEnd t n x e a inv
  | faultRunning t running => exact trunkInv_faultRunning t inv running
  | faultStopping t => exact trunkInv_faultStopping t inv

/-! ## The outputs while no trunk is in service -/

/-- A part that is not READY keeps its outputs and trunks at rest through every change but a reset's begin and release. -/
theorem quietInv_of_same {s u : State} (inv : s.quietInv) (part : u.startUp.part = s.startUp.part) (trunks : u.trunks = s.trunks)
    (supplies : ∀ t : TrunkId, u.supplies[t].power = s.supplies[t].power) (engines : u.engines = s.engines)
    (attn : s.startUp.part ≠ .ready → s.notices.attn = false → u.notices.attn = false)
    (line : s.startUp.part = .inReset → s.hostLine.receiver = .hunting → s.hostLine.reply = none → s.hostLine.htx = none →
      u.hostLine.htx = none ∧ u.hostLine.reply = none ∧ u.hostLine.receiver = .hunting) : u.quietInv := by
  intro rest
  rw [part] at rest
  obtain ⟨low, silent, trunk⟩ := inv rest
  refine ⟨attn rest low, fun reset => ?_, fun t => ?_⟩
  · rw [part] at reset
    obtain ⟨htx, reply, hunting⟩ := silent reset
    exact line reset hunting reply htx
  · rw [part, trunks, supplies, engines]
    exact trunk t

theorem attn_withNotices (f : NoticeUnit → NoticeUnit) {s : State} (rest : s.startUp.part ≠ .ready) :
    (s.withNotices f).notices.attn = false := by
  show attnLevel s.startUp.part _ = false
  simp [attnLevel, rest]

theorem Move.trunkInv {s u : State} (h : Move s u) (inv : s.trunkInv) : u.trunkInv := by
  cases h with
  | service ready h => exact h.trunkInv ready inv
  | line | lineError => exact inv
  | sense t good =>
    refine trunkInv_of_upd inv (t := t) (c := fun c => c) (m := SupplyMonitor.sense good s.trunks[t]) (e := fun e => e)
      (g := fun g => g) rfl (upd_id _ _).symm rfl (upd_id _ _).symm (upd_id _ _).symm fun ok => ?_
    obtain ⟨settle, recovery, power, low, off, busy, idle, announce⟩ := ok
    unfold SupplyMonitor.sense
    split
    · rename_i on
      refine ⟨settle, recovery, power, fun _ => rfl, fun h => ?_, busy, idle, announce⟩
      exact absurd (on.symm.trans h) (by decide)
    · exact ⟨settle, recovery, power, fun h => absurd h ‹_›, off, busy, idle, announce⟩
  | beginReset k =>
    rw [trunkInv_iff] at inv ⊢
    intro t
    obtain ⟨settle, recovery, -, -, -, -, -, announce⟩ := inv t
    have supply : (s.beginReset k).supplies[t] = SupplyMonitor.reset s.supplies[t].senseGood := by simp [State.beginReset]
    have engine : (s.beginReset k).engines[t] = Engine.reset := by simp [State.beginReset]
    rw [supply, engine]
    exact ⟨settle, recovery, fun awake => absurd rfl awake, nofun, fun _ => ⟨rfl, rfl, rfl, rfl⟩, fun h => absurd rfl h,
      fun _ => rfl, announce⟩
  | released unit rate low =>
    rw [trunkInv_iff]
    intro t
    simp [TrunkOk, State.released, TrunkControl.reset, SupplyMonitor.reset, Engine.reset, Scheduler.reset]
  | passed starting =>
    rw [trunkInv_iff] at inv ⊢
    intro t
    obtain ⟨settle, recovery, power, rest⟩ := inv t
    exact ⟨settle, recovery, fun _ => power (by rw [starting]; decide), rest⟩
  | failed starting =>
    rw [trunkInv_iff] at inv ⊢
    intro t
    obtain ⟨settle, recovery, power, rest⟩ := inv t
    exact ⟨settle, recovery, fun _ => power (by rw [starting]; decide), rest⟩

theorem Move.quietInv {s u : State} (h : Move s u) (quiet : s.quietInv) : u.quietInv := by
  cases h with
  | service ready h => exact fun rest => absurd (by rw [h.frame.1, ready]) rest
  | line f h =>
    refine quietInv_of_same quiet rfl rfl (fun _ => rfl) rfl (fun _ low => low) fun reset hunting reply htx => ?_
    obtain ⟨receiver', reply', htx'⟩ := h reset hunting reply s.hostLine
    exact ⟨htx'.trans htx, reply'.trans reply, receiver'.trans hunting⟩
  | lineError =>
    exact quietInv_of_same quiet rfl rfl (fun _ => rfl) rfl (fun rest _ => attn_withNotices _ rest)
      fun _ hunting reply htx => ⟨htx, reply, hunting⟩
  | sense t good =>
    refine quietInv_of_same quiet rfl rfl (fun k => ?_) rfl (fun _ low => low) fun _ hunting reply htx => ⟨htx, reply, hunting⟩
    rw [State.modSupply_supplies, upd_get]
    split
    · unfold SupplyMonitor.sense
      split <;> rfl
    · rfl
  | beginReset k =>
    refine fun _ => ⟨rfl, fun _ => ⟨rfl, rfl, rfl⟩, fun t => ⟨?_, ?_, fun awake => absurd rfl awake⟩⟩
    · simp [State.beginReset, SupplyMonitor.reset]
    · simp [State.beginReset, Engine.reset]
  | released unit rate low =>
    refine fun _ => ⟨rfl, fun reset => (by cases reset), fun t => ⟨?_, ?_, fun _ => ?_⟩⟩
    · simp [State.released, SupplyMonitor.reset]
    · simp [State.released, Engine.reset]
    · simp [State.released, TrunkControl.reset]
  | passed => exact fun rest => absurd rfl rest
  | failed starting =>
    obtain ⟨low, -, trunk⟩ := quiet (by rw [starting]; decide)
    refine fun _ => ⟨low, fun reset => (by cases reset), fun t => ?_⟩
    obtain ⟨power, engine, disabled⟩ := trunk t
    exact ⟨power, engine, fun _ => disabled (by rw [starting]; decide)⟩

theorem trunkInvKept : KeptByStep fun s => s.trunkInv ∧ s.quietInv :=
  keptByStep_of_move (fun _ _ h => h) fun _ _ move inv => ⟨move.trunkInv inv.1, move.quietInv inv.2⟩

end Sys2Proof.Machine
end

section
/-! PROOFS. The invariant of the Host Line Unit. -/

namespace Sys2Proof.Machine

open Sys2Proof

/-- The receiver, its buffer and its reply agree: the body of the invariant of the Host Line Unit (R165, R167, R172). -/
abbrev HostLine.Agrees (l : HostLine) : Prop :=
  (l.receiver = .replying ↔ l.reply ≠ none) ∧
  (l.gapTimer = true ↔ l.receiver = .inFrame) ∧
  (l.receiver = .hunting → l.buffer = []) ∧
  l.buffer.length ≤ 206 ∧
  (l.receiver = .inFrame → l.buffer ≠ [] ∧
    (4 ≤ l.buffer.length → l.buffer.length < 5 + (byteAt l.buffer 3).toNat ∧ (byteAt l.buffer 3).toNat ≤ 200)) ∧
  (l.htx ≠ none → l.reply ≠ none) ∧
  l.errorCount ≤ 255

namespace HostLine.Agrees

/-- HUNTING with nothing under reception and no reply. -/
theorem atRest {l : HostLine} (hunting : l.receiver = .hunting) (buffer : l.buffer = []) (gap : l.gapTimer = false)
    (reply : l.reply = none) (htx : l.htx = none) (count : l.errorCount ≤ 255) : l.Agrees := by
  unfold HostLine.Agrees
  rw [hunting, buffer, gap, reply, htx]
  exact ⟨by decide, by decide, fun _ => rfl, by decide, nofun, fun h => absurd rfl h, count⟩

/-- REPLYING with a reply fixed. -/
theorem answering {l : HostLine} (replying : l.receiver = .replying) (room : l.buffer.length ≤ 206) (gap : l.gapTimer = false)
    (reply : l.reply ≠ none) (count : l.errorCount ≤ 255) : l.Agrees := by
  unfold HostLine.Agrees
  rw [replying, gap]
  exact ⟨by simpa using reply, by decide, nofun, room, nofun, fun _ => reply, count⟩

/-- IN_FRAME with bytes that do not complete a frame. -/
theorem receiving {l : HostLine} (inFrame : l.receiver = .inFrame) (gap : l.gapTimer = true) (some : l.buffer ≠ [])
    (short : 4 ≤ l.buffer.length → l.buffer.length < 5 + (byteAt l.buffer 3).toNat ∧ (byteAt l.buffer 3).toNat ≤ 200)
    (reply : l.reply = none) (htx : l.htx = none) (count : l.errorCount ≤ 255) : l.Agrees := by
  unfold HostLine.Agrees
  rw [inFrame, gap, reply, htx]
  exact ⟨by decide, by decide, nofun, by omega, fun _ => ⟨some, short⟩, fun h => absurd rfl h, count⟩

/-- Only the error count changes, within its range. -/
theorem count {l : HostLine} (h : l.Agrees) {n : Nat} (hn : n ≤ 255) : HostLine.Agrees { l with errorCount := n } := by
  obtain ⟨h1, h2, h3, h4, h5, h6, -⟩ := h
  exact ⟨h1, h2, h3, h4, h5, h6, hn⟩

/-- No reply is under way while the receiver is not REPLYING. -/
theorem silent {l : HostLine} (h : l.Agrees) (free : l.receiver ≠ .replying) : l.reply = none ∧ l.htx = none := by
  obtain ⟨replying, -, -, -, -, sending, -⟩ := h
  have reply : l.reply = none := by
    by_contra some
    exact free (replying.2 some)
  refine ⟨reply, ?_⟩
  by_contra some
  exact sending some reply

end HostLine.Agrees

/-! ## What a part in service does to its host line -/

/-- In service only the error count of the host line changes, and it does not rise (R146). -/
theorem Service.hostLine {s t : State} (h : Service s t) :
    ∃ n, n ≤ s.hostLine.errorCount ∧ t.hostLine = { s.hostLine with errorCount := n } := by
  have same {t : State} (h : t.hostLine = s.hostLine) :
      ∃ n, n ≤ s.hostLine.errorCount ∧ t.hostLine = { s.hostLine with errorCount := n } := ⟨_, Nat.le_refl _, h⟩
  have of {t : State} (h : ServiceFrame s t) := same h.hostLine
  cases h with
  | errorCount n h => exact ⟨n, h, rfl⟩
  | aside | notices | attention | settings | fill | retire | interval | control | sched | idle | settle | stop | engine =>
    exact same rfl
  | take r => exact same (OrderFrame.post _ _).hostLine
  | submit p o => exact of (.submitPlaced o s)
  | commit tag o => exact of ((ServiceFrame.modPool _ s).trans (.enterQueued _ _))
  | claim m tag => exact of (.ofOrder (.endOrMark m tag s))
  | enable t => exact of ((ServiceFrame.modSupply t _ s).trans (.enterActive t _ _))
  | recover t => exact of ((ServiceFrame.modSupply t _ s).trans (.enterActive t _ _))
  | disable t => exact of (.enterDisabled t s)
  | start n o burst => exact of (.ofGrant (.startOrderExchange n o burst s))
  | exchangeEnd t n x _ e a => exact of (.exchangeEnd t n x e a s)
  | faultRunning t => exact of (.faultRunning t s)
  | faultStopping t => exact of (.faultStopping t s)

theorem Services.hostLine {s t : State} (h : Services s t) :
    ∃ n, n ≤ s.hostLine.errorCount ∧ t.hostLine = { s.hostLine with errorCount := n } := by
  induction h with
  | refl => exact ⟨_, Nat.le_refl _, rfl⟩
  | tail _ last ih =>
    obtain ⟨n, hn, e⟩ := ih
    obtain ⟨m, hm, f⟩ := last.hostLine
    rw [e] at hm f
    exact ⟨m, Nat.le_trans hm hn, f⟩

theorem Answer.Follows.hostLine {s : State} {a : Answer} (h : a.Follows s) :
    ∃ n, n ≤ s.hostLine.errorCount ∧ a.state.hostLine = { s.hostLine with errorCount := n } := by
  rcases h with ⟨o, rfl⟩ | ⟨-, h | ⟨-, h⟩⟩
  · exact ⟨_, Nat.le_refl _, rfl⟩
  · exact ⟨_, Nat.le_refl _, congrArg State.hostLine h⟩
  · exact h.hostLine

theorem Services.hostLineInv {s t : State} (h : Services s t) (inv : s.hostLineInv) : t.hostLineInv := by
  obtain ⟨n, hn, e⟩ := h.hostLine
  show t.hostLine.Agrees
  rw [e]
  have agrees : s.hostLine.Agrees := inv
  exact agrees.count (Nat.le_trans hn agrees.2.2.2.2.2.2)

theorem Answer.Follows.hostLineInv {s : State} {a : Answer} (h : a.Follows s) (inv : s.hostLineInv) : a.state.hostLineInv := by
  rcases h with ⟨o, rfl⟩ | ⟨-, h | ⟨-, h⟩⟩
  · exact inv
  · rw [h]
    exact inv
  · exact h.hostLineInv inv

/-! ## The events of the host line -/

section

variable {s : State}

theorem hostLineInv_discardFrame (inv : s.hostLineInv) (free : s.hostLine.receiver ≠ .replying) : s.discardFrame.hostLineInv := by
  obtain ⟨reply, htx⟩ := HostLine.Agrees.silent inv free
  exact HostLine.Agrees.atRest rfl rfl rfl reply htx (Nat.min_le_left _ _)

theorem hostLineInv_discardWhileReplying (inv : s.hostLineInv) : s.discardWhileReplying.hostLineInv := by
  unfold State.discardWhileReplying
  split
  · exact inv
  · exact HostLine.Agrees.count (l := { s.hostLine with replyErrorCounted := true }) inv (Nat.min_le_left _ _)

theorem hostLineInv_beginReset (k : ResetKind) (inv : s.hostLineInv) : (s.beginReset k).hostLineInv :=
  HostLine.Agrees.atRest rfl rfl rfl rfl rfl inv.2.2.2.2.2.2

theorem hostLineInv_toHunting (inv : s.hostLineInv) (free : s.hostLine.receiver ≠ .replying) : s.toHunting.hostLineInv := by
  obtain ⟨reply, htx⟩ := HostLine.Agrees.silent inv free
  exact HostLine.Agrees.atRest rfl rfl rfl reply htx inv.2.2.2.2.2.2

theorem hostLineInv_takeAddressed (kind : Byte) {frame : List Byte} {request : Request} (p : List Byte)
    (h : ∀ s, (request p s).Follows s) (room : frame.length ≤ 206) (inv : s.hostLineInv) :
    (takeAddressed kind frame request p s).hostLineInv := by
  obtain ⟨n, hn, e⟩ := (h (s.frameTaken frame)).hostLine
  show HostLine.Agrees { (request p (s.frameTaken frame)).state.hostLine with reply := some _ }
  rw [e]
  exact .answering rfl room rfl nofun (Nat.le_trans hn inv.2.2.2.2.2.2)

theorem hostLineInv_deliver {request : Request} (h : KnownRequest request) (kind : Byte) (p : List Byte) (inv : s.hostLineInv) :
    (deliver kind request p s).hostLineInv := by
  have heard : (s.hrxAfterByte false).hostLineInv := inv
  unfold deliver
  split
  · exact inv
  · dsimp only
    split
    · exact hostLineInv_discardWhileReplying heard
    · split
      · exact hostLineInv_discardFrame heard ‹_›
      · rename_i short
        refine hostLineInv_takeAddressed _ p (h.follows p) ?_ heard
        rw [requestFrame_length]
        have : ¬ 200 < p.length := short
        omega

theorem hostLineInv_takeBroadcast (kind : Byte) (p : List Byte) (inv : s.hostLineInv) : (takeBroadcast kind p s).hostLineInv := by
  unfold takeBroadcast
  split
  · dsimp only
    split
    · exact hostLineInv_beginReset _ ((KnownRequest.resetPart.follows p s).hostLineInv inv)
    · exact inv
  · exact (setModeCode_follows true p s).hostLineInv inv
  · exact (KnownRequest.syncInterval.follows p s).hostLineInv inv
  · exact HostLine.Agrees.count inv (Nat.min_le_left _ _)

theorem hostLineInv_frameComplete {frame : List Byte} (room : frame.length ≤ 206) (inv : s.hostLineInv)
    (free : s.hostLine.receiver ≠ .replying) : (frameComplete frame s).hostLineInv := by
  unfold frameComplete
  dsimp only
  split
  · exact hostLineInv_discardFrame inv free
  · split
    · exact hostLineInv_takeBroadcast _ _ (hostLineInv_toHunting inv free)
    · split
      · refine hostLineInv_takeAddressed _ _ (fun s => ?_) room inv
        cases known : requestOf (byteAt frame 2) with
        | none => exact .refused _
        | some request => exact (KnownRequest.of_requestOf known).follows _ s
      · exact hostLineInv_toHunting inv free

theorem byteAt_append_left {a b : List Byte} {i : Nat} (h : i < a.length) : byteAt (a ++ b) i = byteAt a i := by
  unfold byteAt
  rw [List.getD_append _ _ _ _ h]

/-- A byte stored completes the frame, discards it, or leaves a frame that is not complete (R167, R168). -/
theorem hostLineInv_storeByte (b : Byte) (inv : s.hostLineInv) (inFrame : s.hostLine.receiver = .inFrame) :
    (storeByte b s).hostLineInv := by
  obtain ⟨-, -, -, -, frame, -, count⟩ := id inv
  obtain ⟨some, short⟩ := frame inFrame
  have free : s.hostLine.receiver ≠ .replying := by rw [inFrame]; decide
  obtain ⟨reply, htx⟩ := HostLine.Agrees.silent inv free
  have length : (s.hostLine.buffer ++ [b]).length = s.hostLine.buffer.length + 1 := by simp
  have limit : Config.hostPayloadLimit = 200 := rfl
  have fixed (h : 4 ≤ s.hostLine.buffer.length) :
      byteAt (s.hostLine.buffer ++ [b]) 3 = byteAt s.hostLine.buffer 3 := byteAt_append_left h
  unfold storeByte
  dsimp only
  rw [length]
  split
  · exact hostLineInv_discardFrame inv free
  · rename_i fits
    split
    · rename_i complete
      have four : 4 ≤ s.hostLine.buffer.length := by omega
      have := short four
      rw [fixed four] at complete
      exact hostLineInv_frameComplete (by omega) inv free
    · rename_i incomplete
      refine HostLine.Agrees.receiving inFrame rfl (by simp) (fun four => ?_) reply htx count
      change 4 ≤ (s.hostLine.buffer ++ [b]).length at four
      show (s.hostLine.buffer ++ [b]).length < 5 + (byteAt (s.hostLine.buffer ++ [b]) 3).toNat ∧
        (byteAt (s.hostLine.buffer ++ [b]) 3).toNat ≤ 200
      rw [length] at four ⊢
      by_cases old : 4 ≤ s.hostLine.buffer.length
      · have := short old
        rw [fixed old] at incomplete ⊢
        omega
      · have last : byteAt (s.hostLine.buffer ++ [b]) 3 = b := by
          have three : s.hostLine.buffer.length = 3 := by omega
          simp [byteAt, three]
        rw [last] at incomplete ⊢
        omega

theorem hostLineInv_receiveByte (b : Byte) (fe : Bool) (inv : s.hostLineInv) : (receiveByte b fe s).hostLineInv := by
  unfold receiveByte
  split
  · rename_i hunting
    split
    · obtain ⟨reply, htx⟩ := HostLine.Agrees.silent inv (by rw [hunting]; decide)
      exact HostLine.Agrees.receiving rfl rfl nofun (fun four => absurd four (show ¬ 4 ≤ 1 by decide)) reply htx inv.2.2.2.2.2.2
    · exact inv
  · rename_i inFrame
    split
    · exact hostLineInv_discardFrame inv (by rw [inFrame]; decide)
    · exact hostLineInv_storeByte b inv inFrame
  · exact hostLineInv_discardWhileReplying inv

theorem hostLineInv_endReply (inv : s.hostLineInv) {r : Reply} (reply : s.hostLine.reply = some r) : s.endReply.hostLineInv := by
  obtain ⟨replying, gap, -, -, -, -, count⟩ := inv
  have quiet : s.hostLine.gapTimer = false := by
    have := replying.2 (by rw [reply]; nofun)
    rw [this] at gap
    simpa using gap
  exact HostLine.Agrees.atRest rfl rfl quiet rfl rfl count

end

theorem EventForm.hostLineInv {i : Instr} (form : EventForm i) {s t : State} (run : exec i s = .next t) (inv : s.hostLineInv) :
    t.hostLineInv := by
  cases form with
  | hostByteReceived b fe =>
    cases run
    split
    · exact inv
    · exact hostLineInv_receiveByte b fe (s := s.hrxAfterByte fe) inv
  | gapTimeout =>
    cases run
    split
    · rename_i inFrame
      exact hostLineInv_discardFrame inv (by rw [inFrame]; decide)
    · exact inv
  | replyStart =>
    cases run
    split
    · rename_i r replying reply _
      obtain ⟨h1, h2, h3, h4, h5, -, h7⟩ := inv
      exact ⟨h1, h2, h3, h4, h5, fun _ => by show s.hostLine.reply ≠ none; rw [reply]; nofun, h7⟩
    · exact inv
  | replyEnd =>
    cases run
    split
    · rename_i reply _
      split
      · exact hostLineInv_beginReset _ (hostLineInv_endReply inv reply)
      · exact hostLineInv_endReply inv reply
    · exact inv
  | lineHoldReset =>
    cases run
    split
    · exact inv
    · have reset : (s.beginReset .lineHold).hostLineInv := hostLineInv_beginReset .lineHold inv
      exact reset
  | pinReset => cases run; exact hostLineInv_beginReset _ inv
  | powerOnReset => cases run; exact hostLineInv_beginReset _ inv
  | resetRelease unit rate low =>
    cases run
    split
    · exact HostLine.Agrees.atRest rfl rfl rfl rfl rfl (Nat.zero_le _)
    · exact inv
  | memoryCheckPassed => cases run; split <;> exact inv
  | memoryCheckFailed => cases run; split <;> exact inv
  | senseChange t good => cases run; split <;> exact inv
  | service f served chain =>
    rw [served] at run
    cases run
    unfold whenReady
    split
    · exact (chain s).hostLineInv inv
    · exact inv

/-- Settles O58: a request ends REPLYING with its reply, every byte leaves an incomplete frame, no frame, or a completed one. -/
theorem hostLineInvariantKept : Obligations.HostLineInvariantKept := by
  intro s t inv run
  unfold step at run
  split at run
  · cases run
    exact inv
  · rename_i i rest _
    have inv' : ({ s with pending := rest } : State).hostLineInv := inv
    cases request : i.request? with
    | none => exact (EventForm.of_event request).hostLineInv run inv'
    | some a =>
      obtain ⟨req, known, h⟩ := exec_request request
      rw [h] at run
      cases run
      exact hostLineInv_deliver (.of_requestOf known) _ _ inv'

end Sys2Proof.Machine
end

section
/-! PROOFS. The acts on the order blocks: what every operation of a part in service is made of, and the invariants of the Completion
Queue, the notices, the segment memory, the free list and the queue lengths. -/

namespace Sys2Proof.Machine

open Sys2Proof

/-! ## The acts -/

/-- Two states with the same order blocks, engines, notices and part state. -/
structure SameOrders (s t : State) : Prop where
  table : t.table = s.table
  pool : t.pool = s.pool
  held : t.held = s.held
  engines : t.engines = s.engines
  completions : t.completions = s.completions
  attention : t.attention = s.attention
  notices : t.notices = s.notices
  part : t.startUp.part = s.startUp.part

/-- A change of one engine whose exchange ends, goes on, or is a new one without an order; its grant stays on its trunk. -/
structure EngineStep (s : State) (t : TrunkId) (e : Engine) : Prop where
  exch : (∃ x y, e.exch = some x ∧ s.engines[t].exch = some y ∧ x.SameAs y) ∨
    (∃ x, e.exch = some x ∧ x.order = none ∧ ∀ n, x.node = some n → trunkOf n = t) ∨ e.exch = none
  grant : ∀ g n, e.grant = some g → g.node = some n → trunkOf n = t ∨ ∃ g', s.engines[t].grant = some g' ∧ g'.node = some n

theorem EngineChange.step {s : State} {t : TrunkId} {e : Engine} (h : EngineChange s t e) : EngineStep s t e where
  exch := h.exch.imp id (Or.imp (fun ⟨x, hx, order, node, _⟩ => ⟨x, hx, order, node⟩) And.left)
  grant := h.grant

/-- What a GOOD ACK with data does to its BULK_FETCH before the end of the order is considered (R41, R42). -/
def fetchPlaced (o : Order) (payload : List Byte) (s : State) : State :=
  let s := s.modPool (SegmentPool.writeData .trunkSide o.tag o.chain o.progress payload)
  let s :=
    match o.chain[o.progress / Config.segmentBytes]? with
    | some g => if payload.length = Config.segmentBytes then s.modPool (SegmentPool.setOwner .hostSide g) else s
    | none => s
  s.modTable (OrderTable.update o.tag fun p => { p with progress := o.progress + payload.length })

/-- The acts on the order blocks. `K` stands for the agreement of the Order Table, `J` for that of the exchanges, where the chain
of acts starts. -/
inductive Act (K J : Prop) : State → State → Prop
  | aside {s t : State} (h : SameOrders s t) : Act K J s t
  | notices (s : State) (f : NoticeUnit → NoticeUnit) (h : LevelKeeping f) : Act K J s (s.withNotices f)
  | attention (s : State) (l : List AttentionEntry) : Act K J s ({ s with attention := l }).takeAttentionLevel
  | settings (s : State) (f : CompletionQueue → CompletionQueue) (h : ∀ q, (f q).records = q.records) :
      Act K J s (s.modCompletions f).takeCompletionsLevel
  | take (s : State) (r : Nat) : Act K J s (takeEffect r s)
  | endOrder (s : State) (tag : Byte) (r : Result) (nak : Byte)
      (open_ : K → ∀ o, s.table.find tag = some o → o.state.unended = true ∧ s.orderInFlight o = false) :
      Act K J s (s.endOrder tag r nak)
  /-- Inline data, progress, mark and retries of an order that has not ended; the progress of a BULK_FETCH stays. -/
  | update (s : State) (tag : Byte) (f : Order → Order)
      (keeps : ∀ o, f o = { o with inlineData := (f o).inlineData, progress := (f o).progress, mark := (f o).mark,
                                   retries := (f o).retries })
      (open_ : K → ∀ o, s.table.find tag = some o →
        o.state ≠ .ended ∧ (o.kind = .bulkFetch → (f o).progress = o.progress)) :
      Act K J s (s.modTable (OrderTable.update tag f))
  /-- The first segment of a BULK_SEND has been sent (R39). -/
  | sent (s : State) (o : Order) (g : SegId) (rest : List SegId) (n : Nat) (found : s.table.find o.tag = some o)
      (chain : o.chain = g :: rest) (kind : o.kind = .bulkSend) (active : K → o.state = .active) :
      Act K J s ((s.modPool (SegmentPool.freeSegment g)).modTable
        (OrderTable.update o.tag fun p => { p with progress := n, chain := rest }))
  /-- A block of a BULK_FETCH has arrived that is not its last (R41, R42). -/
  | landed (s : State) (o : Order) (payload : List Byte) (found : s.table.find o.tag = some o) (kind : o.kind = .bulkFetch)
      (active : K → o.state = .active) (block : payload.length = o.asked) (more : o.progress + payload.length < o.length) :
      Act K J s (fetchPlaced o payload s)
  | landedLast (s : State) (o : Order) (payload : List Byte) (found : s.table.find o.tag = some o) (kind : o.kind = .bulkFetch)
      (active : K → o.state = .active ∧ s.orderInFlight o = false) (fits : payload.length ≤ o.asked) :
      Act K J s ((fetchPlaced o payload s).endOrder o.tag .done 0)
  | drop (s : State) (n : NodeId) : Act K J s (s.setHeld n none)
  | hold (s : State) (n : NodeId) (h : HeldExchange)
      (active : K → ∃ o, s.table.find h.tag = some o ∧ o.node = n ∧ o.state = .active)
      (type : J → ∀ o, s.table.find h.tag = some o → h.type = o.kind.exchangeType) : Act K J s (s.setHeld n (some h))
  | engine (s : State) (t : TrunkId) (f : Engine → Engine) (h : EngineStep s t (f s.engines[t])) : Act K J s (s.modEngine t f)
  | start (s : State) (n : NodeId) (o : Order) (burst : Nat) (head : s.table.head n = some o)
      (offered : o.state = .queued ∨ o.state = .active) : Act K J s (s.startOrderExchange n o burst)
  | submit (s : State) (p : List Byte) (o : Order) (form : submittedOrder p s.interval.tick = some o)
      (tests : ∀ c ∈ submitTests o s, c.1 = false) : Act K J s (submitPlaced o s)
  | fill (s : State) (tag : Byte) (o : Order) (offset : Nat) (data : List Byte) (n : Nat) (found : s.table.find tag = some o)
      (filling : o.state = .filling) :
      Act K J s ((s.modPool (SegmentPool.writeData .hostSide tag o.chain offset data)).modTable
        (OrderTable.update tag fun o => { o with fill := o.fill + n }))
  | commit (s : State) (tag : Byte) (o : Order) (found : s.table.find tag = some o) (filling : o.state = .filling)
      (room : (s.table.queue o.node).length < 6) : Act K J s (commitPlaced o s)
  | retire (s : State) (tag : Byte) (o : Order) (found : s.table.find tag = some o) (parked : o.state = .parked) :
      Act K J s ((s.modPool (SegmentPool.freeAll o.chain)).modTable (OrderTable.release o.tag))

/-- Chains of acts. -/
abbrev Acts (K J : Prop) : State → State → Prop := Relation.ReflTransGen (Act K J)

/-! ## The end of an order in two parts: its close, and the posting -/

/-- An order closed: its entry, its queue, its record and its segments (R17), before the posting. -/
def State.closeOrder (o : Order) (r : Result) (nak : Byte) (s : State) : State :=
  (((s.dropHeld o).modPool o.closeSegments).modTable
    (OrderTable.endEntry o r nak s.interval.tick (o.chainAtEnd s.pool))).count (trunkOf o.node) (Counters.orderEnd r)

theorem State.endOrder_eq (tag : Byte) (r : Result) (nak : Byte) (s : State) : s.endOrder tag r nak =
    match s.table.find tag with | none => s | some o => (s.closeOrder o r nak).postEnded := rfl

theorem State.count_eq (t : TrunkId) (f : Counters → Counters) (s : State) :
    s.count t f = { s with meters := (s.count t f).meters } := by
  unfold State.count
  split <;> rfl

theorem State.dropHeld_eq (o : Order) (s : State) : s.dropHeld o = { s with held := (s.dropHeld o).held } := by
  unfold State.dropHeld
  split
  · split <;> rfl
  · rfl

/-- The held exchange of the order itself is dropped, and no other (R63). -/
theorem State.dropHeld_get {o : Order} {n : NodeId} {h : HeldExchange} {s : State} (kept : (s.dropHeld o).held[n] = some h) :
    s.held[n] = some h ∧ (n = o.node → h.tag ≠ o.tag) := by
  unfold State.dropHeld at kept
  split at kept
  · rename_i k found
    split at kept
    · change (upd s.held o.node fun _ => none)[n] = some h at kept
      rw [upd_get] at kept
      split at kept
      · cases kept
      · exact ⟨kept, fun e => absurd e ‹_›⟩
    · refine ⟨kept, ?_⟩
      rintro rfl
      rw [found] at kept
      cases kept
      assumption
  · rename_i none
    refine ⟨kept, ?_⟩
    rintro rfl
    rw [none] at kept
    cases kept

/-- The close of an order, block by block. -/
theorem State.closeOrder_eq (o : Order) (r : Result) (nak : Byte) (s : State) : s.closeOrder o r nak =
    { s with
      held := (s.dropHeld o).held
      pool := o.closeSegments s.pool
      table := s.table.endEntry o r nak s.interval.tick (o.chainAtEnd s.pool)
      meters := (s.closeOrder o r nak).meters } := by
  unfold State.closeOrder
  rw [State.count_eq, State.dropHeld_eq]
  rfl

/-- What each posting and the BACKLOG notice keep, posting as a whole keeps. -/
theorem postEnded_inv {p : State → Prop} (head : ∀ s, p s → p s.postHead) (latch : ∀ s, p s → p (s.latch .backlog)) {s : State}
    (h : p s) : p s.postEnded := by
  have posted (n : Nat) (s : State) (h : p s) : p (State.post n s) := by
    induction n generalizing s with
    | zero => exact h
    | succ n ih => exact ih _ (head s h)
  unfold State.postEnded
  dsimp only
  split
  · exact posted _ s h
  · exact latch _ (posted _ s h)

theorem post_inv {p : State → Prop} (head : ∀ s, p s → p s.postHead) (n : Nat) {s : State} (h : p s) : p (State.post n s) := by
  induction n generalizing s with
  | zero => exact h
  | succ n ih => exact ih (head s h)

/-- A property that closing, posting and the BACKLOG notice keep is kept by the end of an order. -/
theorem endOrder_inv {p : State → Prop} (head : ∀ s, p s → p s.postHead) (latch : ∀ s, p s → p (s.latch .backlog)) {s : State}
    {tag : Byte} {r : Result} {nak : Byte} (h : p s)
    (close : ∀ o, s.table.find tag = some o → p (s.closeOrder o r nak)) : p (s.endOrder tag r nak) := by
  rw [State.endOrder_eq]
  split
  · exact h
  · exact postEnded_inv head latch (close _ ‹_›)

/-- The chain of the entry whose record is posted. -/
def OrderTable.chainOf (tag : Byte) (t : OrderTable) : List SegId := match t.find tag with | some o => o.chain | none => []

/-- The state after the head record of the backlog has been posted (R130). -/
def State.posted (r : CompletionRecord) (rest : List CompletionRecord) (s : State) : State :=
  let parks := r.kind = .bulkFetch ∧ 0 < r.progress
  { s with
    completions := { s.completions with
      records := s.completions.records ++ [⟨r, s.interval.tick⟩]
      headAged := if s.completions.records.isEmpty then false else s.completions.headAged }
    table := if parks then OrderTable.update r.tag (fun o => { o with state := .parked }) { s.table with backlog := rest }
      else OrderTable.release r.tag { s.table with backlog := rest }
    pool := if parks then s.pool else s.pool.freeAll (s.table.chainOf r.tag) }

theorem State.postHead_eq (s : State) : s.postHead = s ∨ ∃ r rest, s.table.backlog = r :: rest ∧
    s.completions.records.length < 32 ∧ s.postHead = (s.posted r rest).takeCompletionsLevel := by
  unfold State.postHead
  split
  · exact .inl rfl
  · rename_i r rest backlog
    split
    · rename_i room
      refine .inr ⟨r, rest, backlog, room, ?_⟩
      unfold State.posted
      dsimp only
      by_cases parks : r.kind = .bulkFetch ∧ 0 < r.progress
      · simp only [if_pos parks]
        rfl
      · simp only [if_neg parks]
        rfl
    · exact .inl rfl

/-! ## The entry into QUEUED -/

/-- The table after an order of the table has entered QUEUED (R8). -/
def OrderTable.entered (tag : Byte) (t : OrderTable) : OrderTable :=
  match (t.update tag fun o => { o with state := .queued }).find tag with
  | none => t.update tag fun o => { o with state := .queued }
  | some o => OrderTable.enqueue o (t.update tag fun o => { o with state := .queued })

theorem State.enterQueued_table (tag : Byte) (s : State) : (s.enterQueued tag).table = s.table.entered tag := by
  unfold State.enterQueued OrderTable.entered
  dsimp only
  simp only [State.modTable_table]
  cases (s.table.update tag fun o => { o with state := .queued }).find tag with
  | none => rfl
  | some o =>
    show (State.wake (trunkOf o.node) _).table = _
    rw [State.wake_eq]
    rfl

theorem OrderTable.entered_backlog (tag : Byte) (t : OrderTable) : (t.entered tag).backlog = t.backlog := by
  unfold OrderTable.entered
  split <;> rfl

/-- The pool after the segments of a submitted order have been allocated (R31). -/
def SegmentPool.submitted (o : Order) (p : SegmentPool) : SegmentPool :=
  if o.kind.isBulk then
    p.allocate (segmentsFor o.length) o.tag (if o.kind = .bulkSend then .hostSide else .trunkSide)
  else p

/-- The submitted order with its segments (R31). -/
def Order.withChain (o : Order) (p : SegmentPool) : Order :=
  { o with chain := p.freeList.take (if o.kind.isBulk then segmentsFor o.length else 0) }

theorem submitPlaced_pool (o : Order) (s : State) : (submitPlaced o s).pool = s.pool.submitted o := by
  unfold submitPlaced SegmentPool.submitted
  dsimp only
  cases o.kind.isBulk <;> simp only [if_true, if_false, Bool.false_eq_true]
  · split
    · rfl
    · rw [State.enterQueued_eq]
      rfl
  · split
    · rfl
    · rw [State.enterQueued_eq]
      rfl

theorem submitPlaced_table (o : Order) (s : State) : (submitPlaced o s).table =
    if o.kind = .bulkSend then s.table.add (o.withChain s.pool) else (s.table.add (o.withChain s.pool)).entered o.tag := by
  unfold submitPlaced Order.withChain
  dsimp only
  cases o.kind.isBulk <;> simp only [if_true, if_false, Bool.false_eq_true]
  · split
    · rfl
    · rw [State.enterQueued_table]
      rfl
  · split
    · rfl
    · rw [State.enterQueued_table]
      rfl

theorem commitPlaced_table (o : Order) (s : State) : (commitPlaced o s).table = s.table.entered o.tag :=
  State.enterQueued_table o.tag _

theorem commitPlaced_pool (o : Order) (s : State) :
    (commitPlaced o s).pool = o.chain.foldl (fun p g => p.setOwner .trunkSide g) s.pool := by
  unfold commitPlaced
  rw [State.enterQueued_eq]
  rfl

theorem fetchPlaced_eq (o : Order) (payload : List Byte) (s : State) : fetchPlaced o payload s =
    { s with
      pool := (fetchPlaced o payload s).pool
      table := s.table.update o.tag fun p => { p with progress := o.progress + payload.length } } := by
  unfold fetchPlaced
  dsimp only
  split
  · split <;> rfl
  · rfl

end Sys2Proof.Machine
end

section
/-! PROOFS. What every act keeps without the agreement of the Order Table: the posting, the notices, the segment memory, the free list
and the queue lengths. -/

namespace Sys2Proof.Machine

open Sys2Proof

variable {K J : Prop}

/-! ## The posting -/

/-- Posting as often as there are records leaves an empty backlog or a full queue (R130). -/
theorem post_postingInv (n : Nat) (s : State) (room : s.completions.records.length ≤ 32) (enough : s.table.backlog.length ≤ n) :
    (State.post n s).postingInv := by
  induction n generalizing s with
  | zero => exact ⟨room, .inl (List.eq_nil_of_length_eq_zero (Nat.le_zero.1 enough))⟩
  | succ n ih =>
    have step : s.postHead.completions.records.length ≤ 32 ∧
        (s.postHead.table.backlog.length ≤ n ∨ s.postHead.postingInv) := by
      rcases postHead_cases s with ⟨same, empty | full⟩ | ⟨r, rest, backlog, space, rest', records⟩
      · rw [same]
        exact ⟨room, .inr ⟨room, .inl empty⟩⟩
      · rw [same]
        exact ⟨room, .inr ⟨room, .inr (Nat.le_antisymm room full)⟩⟩
      · rw [rest', records]
        rw [backlog] at enough
        simp only [List.length_append, List.length_cons, List.length_nil] at enough ⊢
        exact ⟨by omega, .inl (by omega)⟩
    rcases step.2 with shorter | done
    · exact ih _ step.1 shorter
    · exact post_inv (fun s h => (show s.postHead.postingInv by
        rcases postHead_cases s with ⟨same, -⟩ | ⟨r, rest, backlog, space, -⟩
        · rw [same]; exact h
        · rcases h.2 with empty | full
          · rw [empty] at backlog; cases backlog
          · omega)) n done

theorem postingInv_endOrder {s : State} (tag : Byte) (r : Result) (nak : Byte) (inv : s.postingInv) :
    (s.endOrder tag r nak).postingInv := by
  rw [State.endOrder_eq]
  split
  · exact inv
  · rename_i o _
    have posted : (State.post (s.closeOrder o r nak).table.backlog.length (s.closeOrder o r nak)).postingInv :=
      post_postingInv _ _ (by rw [State.closeOrder_eq]; exact inv.1) (Nat.le_refl _)
    unfold State.postEnded
    dsimp only
    split <;> exact posted

theorem Act.postingInv {s t : State} (h : Act K J s t) (inv : s.postingInv) : t.postingInv := by
  have of {t : State} (records : t.completions.records = s.completions.records) (backlog : t.table.backlog = s.table.backlog) :
      t.postingInv := by
    unfold State.postingInv
    rw [records, backlog]
    exact inv
  cases h with
  | aside h => exact of (by rw [h.completions]) (by rw [h.table])
  | settings f h => exact of (h _) rfl
  | take r =>
    have dropped : (s.completions.records.drop r).length ≤ 32 := by
      have := inv.1
      simp only [List.length_drop]
      omega
    exact post_postingInv _ (s.modCompletions _) dropped (Nat.le_refl _)
  | endOrder tag r nak => exact postingInv_endOrder tag r nak inv
  | landed o payload =>
    rw [fetchPlaced_eq]
    exact of rfl rfl
  | landedLast o payload =>
    refine postingInv_endOrder _ _ _ ?_
    rw [fetchPlaced_eq]
    exact of rfl rfl
  | start n o burst =>
    have frame := GrantFrame.startOrderExchange n o burst s
    exact of (by rw [frame.completions]) frame.backlog
  | submit p o =>
    refine of (by rw [submitPlaced_eq]) ?_
    rw [submitPlaced_table]
    split
    · rfl
    · exact OrderTable.entered_backlog _ _
  | commit tag o =>
    refine of (by rw [commitPlaced_eq]) ?_
    rw [commitPlaced_table]
    exact OrderTable.entered_backlog _ _
  | notices | attention | update | sent | drop | hold | engine | fill | retire => exact of rfl rfl

/-! ## The notices -/

/-- The flags besides COMPLETIONS: the ATTENTION level, and the unused positions (8.3, R142). -/
abbrev State.noticesBase (s : State) : Prop :=
  s.notices.flags.getLsbD 1 = s.attention.any (fun e => !e.seen) ∧ s.notices.flags &&& 0xFE00 = 0 ∧ s.notices.mask &&& 0xFE00 = 0

theorem NoticeUnit.put_unused {f : NoticeFlag} {b : Bool} {n : NoticeUnit} (h : n.flags &&& 0xFE00 = 0) :
    (n.put f b).flags &&& 0xFE00 = 0 := by
  unfold NoticeUnit.put
  dsimp only
  split
  · have unused : f.mask &&& 0xFE00 = 0 := by cases f <;> rfl
    rw [BitVec.and_comm, BitVec.and_or_distrib_left, BitVec.and_comm _ n.flags, BitVec.and_comm _ f.mask, h, unused]
    rfl
  · rw [BitVec.and_assoc, BitVec.and_comm (~~~f.mask), ← BitVec.and_assoc, h]
    exact BitVec.zero_and

/-- A level handed over stands at its own flag alone (R144). -/
theorem NoticeUnit.put_bit (f : NoticeFlag) (b : Bool) (n : NoticeUnit) (i : Nat) (hi : i < 16) :
    (n.put f b).flags.getLsbD i = if i = f.bit then b else n.flags.getLsbD i := by
  have bit : f.mask.getLsbD i = decide (i = f.bit) := by
    revert i
    cases f <;> decide
  unfold NoticeUnit.put
  dsimp only
  split <;> by_cases e : i = f.bit <;> simp_all

theorem noticesInv_takeCompletionsLevel {s : State} (base : s.noticesBase) : s.takeCompletionsLevel.noticesInv := by
  obtain ⟨attention, unused, mask⟩ := base
  refine ⟨rfl, ?_, ?_, NoticeUnit.put_unused unused, mask⟩
  · exact (NoticeUnit.put_bit .completions _ s.notices 0 (by decide)).trans (if_pos rfl)
  · exact ((NoticeUnit.put_bit .completions _ s.notices 1 (by decide)).trans (if_neg (by decide))).trans attention

theorem noticesInv_takeAttentionLevel {s : State} (inv : s.noticesInv) (l : List AttentionEntry) :
    ({ s with attention := l } : State).takeAttentionLevel.noticesInv := by
  obtain ⟨-, completions, -, unused, mask⟩ := inv
  refine ⟨rfl, ?_, ?_, NoticeUnit.put_unused unused, mask⟩
  · exact ((NoticeUnit.put_bit .attention _ s.notices 0 (by decide)).trans (if_neg (by decide))).trans completions
  · exact (NoticeUnit.put_bit .attention _ s.notices 1 (by decide)).trans (if_pos rfl)

theorem noticesInv_withNotices {s : State} {f : NoticeUnit → NoticeUnit} (h : LevelKeeping f) (inv : s.noticesInv) :
    (s.withNotices f).noticesInv := by
  obtain ⟨-, completions, attention, unused, mask⟩ := inv
  exact ⟨rfl, (h.completions _).trans completions, (h.attention _).trans attention, h.flags _ unused, h.mask _ mask⟩

theorem State.noticesInv.base {s : State} (inv : s.noticesInv) : s.noticesBase := inv.2.2

theorem noticesInv_postHead {s : State} (inv : s.noticesInv) : s.postHead.noticesInv := by
  rcases State.postHead_eq s with same | ⟨r, rest, -, -, posted⟩
  · rw [same]
    exact inv
  · rw [posted]
    exact noticesInv_takeCompletionsLevel inv.2.2

theorem noticesInv_endOrder {s : State} (tag : Byte) (r : Result) (nak : Byte) (inv : s.noticesInv) :
    (s.endOrder tag r nak).noticesInv := by
  refine endOrder_inv (p := State.noticesInv) (fun _ => noticesInv_postHead)
    (fun _ => noticesInv_withNotices (.raise (by decide) (by decide))) inv fun o _ => ?_
  rw [State.closeOrder_eq]
  exact inv

theorem Act.noticesInv {s t : State} (h : Act K J s t) (inv : s.noticesInv) : t.noticesInv := by
  have of {t : State} (notices : t.notices = s.notices) (part : t.startUp = s.startUp)
      (completions : t.completions = s.completions) (attention : t.attention = s.attention) : t.noticesInv := by
    unfold State.noticesInv
    rw [notices, part, completions, attention]
    exact inv
  cases h with
  | aside h =>
    unfold State.noticesInv
    rw [h.notices, h.part, h.completions, h.attention]
    exact inv
  | notices f h => exact noticesInv_withNotices h inv
  | attention l => exact noticesInv_takeAttentionLevel inv l
  | settings f h => exact noticesInv_takeCompletionsLevel inv.2.2
  | take r =>
    refine noticesInv_takeCompletionsLevel ?_
    refine post_inv (p := State.noticesBase) (fun s base => ?_) _ inv.2.2
    rcases State.postHead_eq s with same | ⟨r, rest, -, -, posted⟩
    · rw [same]
      exact base
    · rw [posted]
      exact (noticesInv_takeCompletionsLevel (s := s.posted r rest) base).2.2
  | endOrder tag r nak => exact noticesInv_endOrder tag r nak inv
  | landed o payload =>
    rw [fetchPlaced_eq]
    exact of rfl rfl rfl rfl
  | landedLast o payload =>
    refine noticesInv_endOrder _ _ _ ?_
    rw [fetchPlaced_eq]
    exact of rfl rfl rfl rfl
  | start n o burst =>
    have frame := GrantFrame.startOrderExchange n o burst s
    exact of frame.notices frame.startUp frame.completions frame.attention
  | submit p o =>
    rw [submitPlaced_eq]
    exact of rfl rfl rfl rfl
  | commit tag o =>
    rw [commitPlaced_eq]
    exact of rfl rfl rfl rfl
  | update | sent | drop | hold | engine | fill | retire => exact of rfl rfl rfl rfl

/-! ## The segment pool -/

/-- A property of the pool that every operation on segments keeps. -/
structure PoolKept (p : SegmentPool → Prop) : Prop where
  free : ∀ (g : SegId) (q : SegmentPool), p q → p (q.freeSegment g)
  owner : ∀ (o : Owner) (g : SegId) (q : SegmentPool), o ≠ .free → p q → p (q.setOwner o g)
  write : ∀ (side : Owner) (tag : Byte) (chain : List SegId) (offset : Nat) (data : List Byte) (q : SegmentPool),
    p q → p (q.writeData side tag chain offset data)
  allocate : ∀ (k : Nat) (tag : Byte) (o : Owner) (q : SegmentPool), o ≠ .free → p q → p (q.allocate k tag o)

namespace PoolKept

variable {p : SegmentPool → Prop} (kept : PoolKept p)

include kept

omit kept in
theorem foldl (f : SegmentPool → SegId → SegmentPool) (h : ∀ q g, p q → p (f q g)) (l : List SegId) (q : SegmentPool) (hq : p q) :
    p (l.foldl f q) := by
  induction l generalizing q with
  | nil => exact hq
  | cons g l ih => exact ih _ (h q g hq)

theorem freeAll (l : List SegId) (q : SegmentPool) (hq : p q) : p (q.freeAll l) :=
  PoolKept.foldl _ (fun q g => kept.free g q) l q hq

theorem closeSegments (o : Order) (q : SegmentPool) (hq : p q) : p (o.closeSegments q) := by
  unfold Order.closeSegments
  split
  · refine PoolKept.foldl _ (fun q g hq => ?_) _ q hq
    unfold SegmentPool.closeFetchSegment
    split
    · split
      · exact kept.free g q hq
      · exact kept.owner .hostSide g q (by decide) hq
    · exact hq
  · exact hq

theorem postHead {s : State} (inv : p s.pool) : p s.postHead.pool := by
  rcases State.postHead_eq s with same | ⟨r, rest, -, -, posted⟩
  · rw [same]
    exact inv
  · rw [posted]
    show p (if r.kind = .bulkFetch ∧ 0 < r.progress then s.pool else s.pool.freeAll (s.table.chainOf r.tag))
    split
    · exact inv
    · exact kept.freeAll _ _ inv

theorem endOrder {s : State} (tag : Byte) (r : Result) (nak : Byte) (inv : p s.pool) : p (s.endOrder tag r nak).pool := by
  refine endOrder_inv (p := fun s => p s.pool) (fun _ => kept.postHead) (fun _ h => h) inv fun o _ => ?_
  rw [State.closeOrder_eq]
  exact kept.closeSegments o _ inv

theorem fetchPlaced {s : State} (o : Order) (payload : List Byte) (inv : p s.pool) : p (fetchPlaced o payload s).pool := by
  unfold Machine.fetchPlaced
  dsimp only
  have written := kept.write .trunkSide o.tag o.chain o.progress payload s.pool inv
  split
  · split
    · exact kept.owner .hostSide _ _ (by decide) written
    · exact written
  · exact written

/-- What every operation on segments keeps, every act keeps. -/
theorem act {s t : State} (h : Act K J s t) (inv : p s.pool) : p t.pool := by
  cases h with
  | aside h =>
    rw [h.pool]
    exact inv
  | take r => exact post_inv (p := fun s => p s.pool) (fun _ => kept.postHead) _ (s := s.modCompletions _) inv
  | endOrder tag r nak => exact kept.endOrder tag r nak inv
  | sent o g => exact kept.free g _ inv
  | landed o payload => exact kept.fetchPlaced o payload inv
  | landedLast o payload => exact kept.endOrder _ _ _ (kept.fetchPlaced o payload inv)
  | start n o burst =>
    rw [(GrantFrame.startOrderExchange n o burst s).pool]
    exact inv
  | submit q o =>
    rw [submitPlaced_pool]
    unfold SegmentPool.submitted
    split
    · exact kept.allocate _ _ _ _ (by split <;> decide) inv
    · exact inv
  | fill tag o offset data => exact kept.write _ _ _ _ _ _ inv
  | commit tag o =>
    rw [commitPlaced_pool]
    exact PoolKept.foldl _ (fun q g => kept.owner .trunkSide g q (by decide)) _ _ inv
  | retire tag o => exact kept.freeAll _ _ inv
  | notices | attention | settings | update | drop | hold | engine => exact inv

end PoolKept

/-- The memory is written by data alone, within the segments (R29). -/
theorem memory_kept : PoolKept fun q => Memory.wf q.mem ∧ ∀ c ∈ q.mem, c.1 < 96 * 256 where
  free _ _ h := h
  owner _ _ _ _ h := h
  write side tag chain offset data q h := SegmentPool.writeData_mem side tag chain offset data q h
  allocate _ _ _ _ _ h := h

/-! ## The free list -/

/-- The free list holds exactly the FREE segments, ascending: the body of the invariant of 2.1 (R29, R30). -/
abbrev SegmentPool.freeListed (q : SegmentPool) : Prop :=
  q.freeList = allSegments.filter fun g => decide ((q.seg g).owner = .free)

/-- The listing in other words: the list ascends, and a segment is on it when it is FREE. -/
theorem SegmentPool.freeListed_iff (q : SegmentPool) : q.freeListed ↔
    q.freeList.Pairwise (· < ·) ∧ ∀ g : SegId, g ∈ q.freeList ↔ (q.seg g).owner = .free := by
  have ascending : allSegments.Pairwise (· < ·) := List.pairwise_lt_finRange 96
  have all (g : SegId) : g ∈ allSegments := List.mem_finRange g
  constructor
  · intro h
    rw [h]
    refine ⟨ascending.filter _, fun g => ?_⟩
    simp [all g]
  · rintro ⟨sorted, mem⟩
    refine List.Perm.eq_of_pairwise (le := (· < ·)) (fun a b _ _ hab hba => absurd hab (lt_asymm hba)) sorted
      (ascending.filter _) ?_
    refine (List.perm_ext_iff_of_nodup (sorted.imp ne_of_lt) ((ascending.filter _).imp ne_of_lt)).2 fun g => ?_
    simp [all g, mem g]

theorem insertFree_ascending (g : SegId) (l : List SegId) (h : l.Pairwise (· < ·)) : (insertFree g l).Pairwise (· < ·) := by
  induction l with
  | nil => simp [insertFree]
  | cons a l ih =>
    obtain ⟨below, rest⟩ := List.pairwise_cons.1 h
    unfold insertFree
    split
    · rename_i first
      refine List.pairwise_cons.2 ⟨fun b hb => ?_, h⟩
      rcases List.mem_cons.1 hb with rfl | hb
      · exact first
      · exact lt_trans first (below b hb)
    · rename_i later
      split
      · exact h
      · rename_i other
        refine List.pairwise_cons.2 ⟨fun b hb => ?_, ih rest⟩
        rcases (mem_insertFree g b l).1 hb with rfl | hb
        · exact lt_of_le_of_ne (not_lt.1 later) (Ne.symm other)
        · exact below b hb

/-- The owners after a change that makes no segment FREE or not FREE. -/
theorem freeListed_of_owners {q u : SegmentPool} (list : u.freeList = q.freeList)
    (owners : ∀ g : SegId, (u.seg g).owner = .free ↔ (q.seg g).owner = .free) (h : q.freeListed) : u.freeListed := by
  rw [SegmentPool.freeListed_iff] at h ⊢
  rw [list]
  exact ⟨h.1, fun g => (h.2 g).trans (owners g).symm⟩

theorem SegmentPool.setOwner_seg (o : Owner) (g h : SegId) (q : SegmentPool) : (q.setOwner o g).seg h =
    if h = g ∧ (q.seg g).owner ≠ .free then { q.seg g with owner := o } else q.seg h := by
  show (upd q.segs g fun r => if r.owner = .free then r else { r with owner := o })[h] = _
  rw [upd_get]
  by_cases e : h = g
  · subst e
    rw [if_pos rfl]
    by_cases free : (q.seg h).owner = .free
    · exact (if_pos free).trans (if_neg fun c => c.2 free).symm
    · exact (if_neg free).trans (if_pos ⟨rfl, free⟩).symm
  · rw [if_neg e, if_neg fun c => e c.1]
    rfl

theorem SegmentPool.writeByte_owner (side : Owner) (tag : Byte) (g h : SegId) (pos : Nat) (v : Byte) (q : SegmentPool) :
    ((q.writeByte side tag g pos v).seg h).owner = (q.seg h).owner ∧ (q.writeByte side tag g pos v).freeList = q.freeList := by
  unfold SegmentPool.writeByte
  split
  · refine ⟨?_, rfl⟩
    show ((upd q.segs g fun r => { r with fill := r.fill + 1 })[h]).owner = _
    rw [upd_get]
    split <;> rfl
  · exact ⟨rfl, rfl⟩

theorem SegmentPool.writeData_owner (side : Owner) (tag : Byte) (chain : List SegId) (offset : Nat) (data : List Byte)
    (q : SegmentPool) : (∀ h : SegId, ((q.writeData side tag chain offset data).seg h).owner = (q.seg h).owner) ∧
      (q.writeData side tag chain offset data).freeList = q.freeList := by
  induction data generalizing offset q with
  | nil => exact ⟨fun _ => rfl, rfl⟩
  | cons v data ih =>
    unfold SegmentPool.writeData
    dsimp only
    split
    · rename_i g _
      obtain ⟨owners, list⟩ := ih (offset + 1) (q.writeByte side tag g (offset % Config.segmentBytes) v)
      have first := fun h => q.writeByte_owner side tag g h (offset % Config.segmentBytes) v
      exact ⟨fun h => (owners h).trans (first h).1, list.trans (first g).2⟩
    · exact ih (offset + 1) q

/-- The segments after an allocation (R31). -/
theorem SegmentPool.allocate_seg (k : Nat) (tag : Byte) (o : Owner) (q : SegmentPool) (g : SegId) :
    (q.allocate k tag o).seg g = if g ∈ q.freeList.take k then ⟨o, some tag, 0⟩ else q.seg g := by
  have folded (l : List SegId) (v : Vector Segment 96) :
      (l.foldl (fun v g => upd v g fun _ => ⟨o, some tag, 0⟩) v)[g] = if g ∈ l then ⟨o, some tag, 0⟩ else v[g] := by
    induction l generalizing v with
    | nil => rfl
    | cons a l ih =>
      rw [List.foldl_cons, ih, upd_get]
      by_cases later : g ∈ l
      · simp [later]
      · by_cases e : g = a
        · simp [e]
        · simp [later, e]
  exact folded (q.freeList.take k) q.segs

theorem freeList_kept : PoolKept SegmentPool.freeListed where
  free g q h := by
    rw [SegmentPool.freeListed_iff] at h ⊢
    refine ⟨insertFree_ascending g _ h.1, fun a => ?_⟩
    obtain ⟨seg, mem⟩ := (q.freeSegment_segs g).1 a
    rw [seg, mem, h.2 a]
    split <;> simp_all
  owner o g q named h := by
    refine freeListed_of_owners (q := q) rfl (fun a => ?_) h
    rw [SegmentPool.setOwner_seg]
    split
    · rename_i e
      obtain ⟨rfl, taken⟩ := e
      exact ⟨fun free => absurd free named, fun free => absurd free taken⟩
    · exact Iff.rfl
  write side tag chain offset data q h := by
    obtain ⟨owners, list⟩ := q.writeData_owner side tag chain offset data
    exact freeListed_of_owners list (fun g => by rw [owners]) h
  allocate k tag o q named h := by
    rw [SegmentPool.freeListed_iff] at h ⊢
    obtain ⟨sorted, mem⟩ := h
    refine ⟨sorted.sublist (List.drop_sublist k _), fun g => ?_⟩
    have split' : g ∈ q.freeList ↔ g ∈ q.freeList.take k ∨ g ∈ q.freeList.drop k := by
      rw [← List.mem_append, List.take_append_drop]
    have apart : g ∈ q.freeList.take k → g ∉ q.freeList.drop k := fun a b =>
      List.disjoint_take_drop (sorted.imp ne_of_lt) (Nat.le_refl k) a b
    rw [SegmentPool.allocate_seg]
    show g ∈ q.freeList.drop k ↔ _
    split
    · rename_i taken
      exact ⟨fun later => absurd later (apart taken), fun free => absurd free named⟩
    · rename_i free
      rw [← mem g, split']
      exact ⟨.inr, fun a => a.resolve_left free⟩

end Sys2Proof.Machine
end

section
/-! PROOFS. The agreement of the Order Table, the node queues, the backlog and the exchanges in flight, for each operation on the
table. -/

namespace Sys2Proof.Machine

open Sys2Proof

/-! ## The live orders after an operation -/

theorem OrderTable.mem_update {t : OrderTable} {tag : Byte} {f : Order → Order} {o : Order} :
    o ∈ (t.update tag f).live ↔ ∃ p ∈ t.live, o = if p.tag = tag then f p else p := by
  rw [OrderTable.live_update, List.mem_map]
  exact ⟨fun ⟨p, hp, e⟩ => ⟨p, hp, e.symm⟩, fun ⟨p, hp, e⟩ => ⟨p, hp, e.symm⟩⟩

theorem OrderTable.mem_release {t : OrderTable} {tag : Byte} {o : Order} :
    o ∈ (t.release tag).live ↔ o ∈ t.live ∧ o.tag ≠ tag := by
  rw [OrderTable.live_release, List.mem_filter, decide_eq_true_eq]

theorem OrderTable.mem_add {t : OrderTable} (free : t.hasFree = true) {o p : Order} :
    o ∈ (t.add p).live ↔ o = p ∨ o ∈ t.live := by
  obtain ⟨a, b, old, new⟩ := t.live_add p free
  rw [old, new]
  simp only [List.mem_append, List.mem_cons]
  tauto

theorem OrderTable.tags_update {t : OrderTable} {tag : Byte} {f : Order → Order} (hf : ∀ o, (f o).tag = o.tag) :
    (t.update tag f).live.map Order.tag = t.live.map Order.tag := by
  rw [OrderTable.live_update, List.map_map]
  refine List.map_congr_left fun o _ => ?_
  show (if o.tag = tag then f o else o).tag = o.tag
  split
  · exact hf o
  · rfl

theorem OrderTable.nodup_update {t : OrderTable} {tag : Byte} {f : Order → Order} (hf : ∀ o, (f o).tag = o.tag)
    (h : (t.live.map Order.tag).Nodup) : ((t.update tag f).live.map Order.tag).Nodup := by
  rwa [OrderTable.tags_update hf]

theorem OrderTable.tags_release {t : OrderTable} {tag : Byte} (h : (t.live.map Order.tag).Nodup) :
    ((t.release tag).live.map Order.tag).Nodup := by
  rw [OrderTable.live_release]
  exact h.sublist (List.filter_sublist.map _)

theorem OrderTable.tags_add {t : OrderTable} {p : Order} (free : t.hasFree = true) (h : (t.live.map Order.tag).Nodup)
    (fresh : t.find p.tag = none) : ((t.add p).live.map Order.tag).Nodup := by
  obtain ⟨a, b, old, new⟩ := t.live_add p free
  have other : p.tag ∉ (a ++ b).map Order.tag := by
    rw [← old]
    intro mem
    obtain ⟨o, ho, e⟩ := List.mem_map.1 mem
    exact OrderTable.find_none.1 fresh o ho e
  rw [old] at h
  rw [new]
  have perm : ((a ++ p :: b).map Order.tag).Perm (p.tag :: (a ++ b).map Order.tag) := (List.perm_middle.map Order.tag)
  exact perm.nodup_iff.2 (List.nodup_cons.2 ⟨other, h⟩)

/-- With one live order of the tag, a change of that order replaces it. -/
theorem OrderTable.mem_update_of {t : OrderTable} (h : (t.live.map Order.tag).Nodup) {p : Order} (hp : p ∈ t.live)
    {f : Order → Order} {o : Order} : o ∈ (t.update p.tag f).live ↔ o = f p ∨ (o ∈ t.live ∧ o.tag ≠ p.tag) := by
  rw [OrderTable.mem_update]
  constructor
  · rintro ⟨q, hq, rfl⟩
    split
    · rename_i e
      exact .inl (by rw [eq_of_tag h hq hp e])
    · exact .inr ⟨hq, ‹_›⟩
  · rintro (rfl | ⟨ho, other⟩)
    · exact ⟨p, hp, by rw [if_pos rfl]⟩
    · exact ⟨o, ho, by rw [if_neg other]⟩

theorem OrderTable.find_add {t : OrderTable} {p : Order} (free : t.hasFree = true) (fresh : t.find p.tag = none) :
    (t.add p).find p.tag = some p := by
  obtain ⟨a, b, old, new⟩ := t.live_add p free
  have before : a.find? (fun o => decide (o.tag = p.tag)) = none := by
    rw [List.find?_eq_none]
    intro o ho
    have := OrderTable.find_none.1 fresh o (by rw [old]; exact List.mem_append_left _ ho)
    simpa using this
  unfold OrderTable.find
  rw [new, List.find?_append, before]
  simp

/-- The entry into QUEUED of a live order (R8). -/
theorem OrderTable.entered_eq {t : OrderTable} {tag : Byte} {o : Order} (found : t.find tag = some o) :
    t.entered tag = OrderTable.enqueue { o with state := .queued } (t.update tag fun o => { o with state := .queued }) := by
  have same : o.tag = tag := (OrderTable.find_some found).2
  have queued : (t.update tag fun o => { o with state := .queued }).find tag = some { o with state := .queued } := by
    rw [OrderTable.find_update (f := fun o => { o with state := .queued }) (fun _ => rfl), found, Option.map_some, if_pos same]
  unfold OrderTable.entered
  rw [queued]

@[simp] theorem OrderTable.update_queue (t : OrderTable) (tag : Byte) (f : Order → Order) (n : NodeId) :
    (t.update tag f).queue n = t.queue n := rfl
@[simp] theorem OrderTable.release_queue (t : OrderTable) (tag : Byte) (n : NodeId) : (t.release tag).queue n = t.queue n := rfl
@[simp] theorem OrderTable.add_queue (t : OrderTable) (o : Order) (n : NodeId) : (t.add o).queue n = t.queue n := rfl
@[simp] theorem OrderTable.update_backlog (t : OrderTable) (tag : Byte) (f : Order → Order) :
    (t.update tag f).backlog = t.backlog := rfl

theorem OrderTable.endEntry_queue (t : OrderTable) (o : Order) (r : Result) (nak : Byte) (now : Word) (chain : List SegId)
    (n : NodeId) : (t.endEntry o r nak now chain).queue n =
      if n = o.node then (t.queue n).filter (· ≠ o.tag) else t.queue n := by
  show (upd t.queues o.node fun q => q.filter (· ≠ o.tag))[n] = _
  rw [upd_get]
  rfl

/-! ## The agreement of the table -/

/-- The agreement of a table with the exchanges in flight (R1, R2, R7, R128): the body of the invariant of 1.1. -/
structure OrderTable.Agrees (t : OrderTable) (busy : TrunkId → Byte → Prop) : Prop where
  tags : (t.live.map Order.tag).Nodup
  queueOnce : ∀ n : NodeId, (t.queue n).Nodup
  queueOnly : ∀ n : NodeId, ∀ tag ∈ t.queue n, ∃ o ∈ t.live, o.tag = tag ∧ o.node = n ∧ o.state.inQueue
  queueAll : ∀ o ∈ t.live, o.state.inQueue → o.tag ∈ t.queue o.node
  activeHead : ∀ o ∈ t.live, o.state = .active → (t.queue o.node).head? = some o.tag
  backlogOnce : (t.backlog.map CompletionRecord.tag).Nodup
  backlogOnly : ∀ c ∈ t.backlog, ∃ o ∈ t.live, c.standsFor o
  backlogAll : ∀ o ∈ t.live, o.state = .ended → ∃ c ∈ t.backlog, c.tag = o.tag
  inFlight : ∀ (k : TrunkId) (tag : Byte), busy k tag → ∃ o ∈ t.live, o.tag = tag ∧ o.state = .active ∧ trunkOf o.node = k

/-- An exchange for this order is in flight on this trunk. -/
def State.busy (s : State) (k : TrunkId) (tag : Byte) : Prop := ∃ x, s.engines[k].exch = some x ∧ x.order = some tag

theorem ordersInv_iff (s : State) : s.OrdersInv ↔ s.table.Agrees s.busy :=
  ⟨fun h => ⟨h.1, h.2, h.3, h.4, h.5, h.6, h.7, h.8, fun k tag ⟨x, hx, ho⟩ => h.9 k x tag hx ho⟩,
    fun h => ⟨h.1, h.2, h.3, h.4, h.5, h.6, h.7, h.8, fun k x tag hx ho => h.9 k tag ⟨x, hx, ho⟩⟩⟩

theorem orderInFlight_iff (s : State) (o : Order) : s.orderInFlight o = true ↔ s.busy (trunkOf o.node) o.tag := by
  unfold State.orderInFlight State.busy
  cases s.engines[trunkOf o.node].exch <;> simp

namespace OrderTable.Agrees

variable {t : OrderTable} {busy : TrunkId → Byte → Prop} (ok : t.Agrees busy)

include ok

theorem of_busy {busy' : TrunkId → Byte → Prop} (h : ∀ k tag, busy' k tag → busy k tag) : t.Agrees busy' :=
  { ok with inFlight := fun k tag b => ok.inFlight k tag (h k tag b) }

theorem found {o : Order} (h : o ∈ t.live) : t.find o.tag = some o := OrderTable.find_live ok.tags h

theorem eq {o p : Order} (ho : o ∈ t.live) (hp : p ∈ t.live) (e : o.tag = p.tag) : o = p := eq_of_tag ok.tags ho hp e

/-- A live order outside its queue's states stands in no queue. -/
theorem not_queued {o : Order} (h : o ∈ t.live) (out : ¬ o.state.inQueue) (n : NodeId) : o.tag ∉ t.queue n := by
  intro mem
  obtain ⟨p, hp, tag, -, state⟩ := ok.queueOnly n _ mem
  rw [ok.eq hp h tag] at state
  exact out state

/-- The tag of a live order in a queue is in its own node's queue. -/
theorem node_of_queued {o : Order} (h : o ∈ t.live) {n : NodeId} (mem : o.tag ∈ t.queue n) : o.node = n ∧ o.state.inQueue := by
  obtain ⟨p, hp, tag, node, state⟩ := ok.queueOnly n _ mem
  rw [ok.eq hp h tag] at node state
  exact ⟨node, state⟩

/-- An order that is not ACTIVE is not in flight. -/
theorem not_busy {o : Order} (h : o ∈ t.live) (idle : o.state ≠ .active) (k : TrunkId) : ¬ busy k o.tag := by
  intro b
  obtain ⟨p, hp, tag, active, -⟩ := ok.inFlight k _ b
  rw [ok.eq hp h tag] at active
  exact idle active

/-- A change of one order that keeps its place, and is not to an ENDED order, keeps the agreement. -/
theorem update {tag : Byte} {f : Order → Order} (keeps : ∀ o, (f o).tag = o.tag ∧ (f o).node = o.node ∧ (f o).kind = o.kind ∧
      (f o).state = o.state)
    (open_ : ∀ o ∈ t.live, o.tag = tag → o.state ≠ .ended) : (t.update tag f).Agrees busy := by
  have shape (o : Order) : (if o.tag = tag then f o else o).tag = o.tag ∧ (if o.tag = tag then f o else o).node = o.node ∧
      (if o.tag = tag then f o else o).kind = o.kind ∧ (if o.tag = tag then f o else o).state = o.state := by
    split
    · exact keeps o
    · exact ⟨rfl, rfl, rfl, rfl⟩
  have mem {o : Order} (h : o ∈ t.live) : (if o.tag = tag then f o else o) ∈ (t.update tag f).live :=
    OrderTable.mem_update.2 ⟨o, h, rfl⟩
  have ex {p : Order → Prop} (h : ∃ o ∈ t.live, p o) (hp : ∀ o ∈ t.live, p o → p (if o.tag = tag then f o else o)) :
      ∃ o ∈ (t.update tag f).live, p o := by
    obtain ⟨o, ho, h⟩ := h
    exact ⟨_, mem ho, hp o ho h⟩
  constructor
  case tags => exact OrderTable.nodup_update (fun o => (keeps o).1) ok.tags
  case queueOnce => exact ok.queueOnce
  case queueOnly =>
    intro n u hu
    refine ex (ok.queueOnly n u hu) fun o _ h => ?_
    obtain ⟨h1, h2, -, h4⟩ := shape o
    rwa [h1, h2, h4]
  case queueAll =>
    intro o ho
    obtain ⟨p, hp, rfl⟩ := OrderTable.mem_update.1 ho
    obtain ⟨h1, h2, -, h4⟩ := shape p
    rw [h1, h2, h4]
    exact ok.queueAll p hp
  case activeHead =>
    intro o ho
    obtain ⟨p, hp, rfl⟩ := OrderTable.mem_update.1 ho
    obtain ⟨h1, h2, -, h4⟩ := shape p
    rw [h1, h2, h4]
    exact ok.activeHead p hp
  case backlogOnce => exact ok.backlogOnce
  case backlogOnly =>
    intro c hc
    refine ex (ok.backlogOnly c hc) fun o ho stands => ?_
    rw [if_neg fun e => open_ o ho e stands.1]
    exact stands
  case backlogAll =>
    intro o ho
    obtain ⟨p, hp, rfl⟩ := OrderTable.mem_update.1 ho
    obtain ⟨h1, -, -, h4⟩ := shape p
    rw [h1, h4]
    exact ok.backlogAll p hp
  case inFlight =>
    intro k u b
    refine ex (ok.inFlight k u b) fun o _ h => ?_
    obtain ⟨h1, h2, -, h4⟩ := shape o
    rwa [h1, h2, h4]

/-- The head of a queue becomes ACTIVE with its exchange in flight (R10). -/
theorem activate {o : Order} (h : o ∈ t.live) (state : o.state = .queued ∨ o.state = .active)
    (head : (t.queue o.node).head? = some o.tag) {busy' : TrunkId → Byte → Prop}
    (new : ∀ k tag, busy' k tag → busy k tag ∨ (k = trunkOf o.node ∧ tag = o.tag)) :
    (t.update o.tag fun o => { o with state := .active }).Agrees busy' := by
  have mem {p : Order} := OrderTable.mem_update_of ok.tags h (f := fun o => { o with state := .active }) (o := p)
  have in_ : o.state.inQueue := state
  constructor
  case tags => exact OrderTable.nodup_update (f := fun o => { o with state := .active }) (fun _ => rfl) ok.tags
  case queueOnce => exact ok.queueOnce
  case queueOnly =>
    intro n u hu
    obtain ⟨p, hp, tag, node, q⟩ := ok.queueOnly n u hu
    by_cases e : p.tag = o.tag
    · rw [ok.eq hp h e] at tag node
      exact ⟨_, mem.2 (.inl rfl), tag, node, .inr rfl⟩
    · exact ⟨p, mem.2 (.inr ⟨hp, e⟩), tag, node, q⟩
  case queueAll =>
    intro p hp
    rcases mem.1 hp with rfl | ⟨hp, -⟩
    · exact fun _ => ok.queueAll o h in_
    · exact ok.queueAll p hp
  case activeHead =>
    intro p hp
    rcases mem.1 hp with rfl | ⟨hp, -⟩
    · exact fun _ => head
    · exact ok.activeHead p hp
  case backlogOnce => exact ok.backlogOnce
  case backlogOnly =>
    intro c hc
    obtain ⟨p, hp, stands⟩ := ok.backlogOnly c hc
    refine ⟨p, mem.2 (.inr ⟨hp, fun e => ?_⟩), stands⟩
    have ended := stands.1
    rw [ok.eq hp h e] at ended
    rw [ended] at state
    rcases state with state | state <;> cases state
  case backlogAll =>
    intro p hp
    rcases mem.1 hp with rfl | ⟨hp, -⟩
    · exact fun ended => by cases ended
    · exact ok.backlogAll p hp
  case inFlight =>
    intro k u b
    rcases new k u b with b | ⟨rfl, rfl⟩
    · obtain ⟨p, hp, tag, active, trunk⟩ := ok.inFlight k u b
      by_cases e : p.tag = o.tag
      · rw [ok.eq hp h e] at tag trunk
        exact ⟨_, mem.2 (.inl rfl), tag, rfl, trunk⟩
      · exact ⟨p, mem.2 (.inr ⟨hp, e⟩), tag, active, trunk⟩
    · exact ⟨_, mem.2 (.inl rfl), rfl, rfl, rfl⟩

/-- An unended order that is not in flight ends: it leaves its queue and its record joins the backlog (R17). -/
theorem endEntry {o : Order} (h : o ∈ t.live) (open_ : o.state.unended = true) (idle : ¬ busy (trunkOf o.node) o.tag)
    (r : Result) (nak : Byte) (now : Word) (chain : List SegId) : (t.endEntry o r nak now chain).Agrees busy := by
  have mem {p : Order} : p ∈ (t.endEntry o r nak now chain).live ↔ p = o.ended r nak now chain ∨ (p ∈ t.live ∧ p.tag ≠ o.tag) :=
    OrderTable.mem_update_of ok.tags h
  have queue (n : NodeId) (u : Byte) : u ∈ (t.endEntry o r nak now chain).queue n ↔ u ∈ t.queue n ∧ (n = o.node → u ≠ o.tag) := by
    rw [OrderTable.endEntry_queue]
    split
    · simp_all
    · simp_all
  have not_ended : o.state ≠ .ended := by
    intro ended
    rw [ended] at open_
    cases open_
  constructor
  case tags => exact OrderTable.nodup_update (f := Order.ended r nak now chain) (fun _ => rfl) ok.tags
  case queueOnce =>
    intro n
    rw [OrderTable.endEntry_queue]
    split
    · exact (ok.queueOnce n).filter _
    · exact ok.queueOnce n
  case queueOnly =>
    intro n u hu
    obtain ⟨hu, other⟩ := (queue n u).1 hu
    obtain ⟨p, hp, rfl, node, q⟩ := ok.queueOnly n u hu
    refine ⟨p, mem.2 (.inr ⟨hp, fun e => ?_⟩), rfl, node, q⟩
    rw [ok.eq hp h e] at node
    exact other node.symm e
  case queueAll =>
    intro p hp state
    rcases mem.1 hp with rfl | ⟨hp, other⟩
    · rcases state with state | state <;> cases state
    · exact (queue p.node p.tag).2 ⟨ok.queueAll p hp state, fun _ => other⟩
  case activeHead =>
    intro p hp active
    rcases mem.1 hp with rfl | ⟨hp, other⟩
    · cases active
    · have head := ok.activeHead p hp active
      rw [OrderTable.endEntry_queue]
      split
      · cases q : t.queue p.node with
        | nil => rw [q] at head; cases head
        | cons a l =>
          rw [q] at head
          obtain rfl : a = p.tag := by simpa using head
          simp [other]
      · exact head
  case backlogOnce =>
    show ((t.backlog ++ [o.record r nak now]).map CompletionRecord.tag).Nodup
    rw [List.map_append]
    refine List.nodup_append.2 ⟨ok.backlogOnce, by simp, fun u hu v hv e => ?_⟩
    obtain rfl : v = o.tag := by simpa [Order.record] using hv
    obtain ⟨c, hc, rfl⟩ := List.mem_map.1 hu
    obtain ⟨p, hp, ended, tag, -⟩ := ok.backlogOnly c hc
    rw [ok.eq hp h (tag.symm.trans e)] at ended
    exact not_ended ended
  case backlogOnly =>
    intro c hc
    rcases List.mem_append.1 (show c ∈ t.backlog ++ [o.record r nak now] from hc) with hc | hc
    · obtain ⟨p, hp, stands⟩ := ok.backlogOnly c hc
      refine ⟨p, mem.2 (.inr ⟨hp, fun e => ?_⟩), stands⟩
      have ended := stands.1
      rw [ok.eq hp h e] at ended
      exact not_ended ended
    · obtain rfl : c = o.record r nak now := by simpa using hc
      exact ⟨_, mem.2 (.inl rfl), rfl, rfl, rfl, rfl, rfl, rfl, rfl, rfl, rfl⟩
  case backlogAll =>
    intro p hp ended
    show ∃ c ∈ t.backlog ++ [o.record r nak now], c.tag = p.tag
    rcases mem.1 hp with rfl | ⟨hp, -⟩
    · exact ⟨_, List.mem_append_right _ (List.mem_singleton.2 rfl), rfl⟩
    · obtain ⟨c, hc, tag⟩ := ok.backlogAll p hp ended
      exact ⟨c, List.mem_append_left _ hc, tag⟩
  case inFlight =>
    intro k u b
    obtain ⟨p, hp, rfl, active, rfl⟩ := ok.inFlight k u b
    refine ⟨p, mem.2 (.inr ⟨hp, fun e => ?_⟩), rfl, active, rfl⟩
    rw [ok.eq hp h e] at b
    exact idle b

/-- The head record of the backlog is posted: its entry is PARKED or FREE (R130). -/
theorem post {c : CompletionRecord} {rest : List CompletionRecord} (backlog : t.backlog = c :: rest) {u : OrderTable}
    (mem : ∀ {p : Order}, p ∈ u.live → (∃ o ∈ t.live, o.tag = c.tag ∧ p = { o with state := .parked }) ∨ (p ∈ t.live ∧ p.tag ≠ c.tag))
    (others : ∀ {p : Order}, p ∈ t.live → p.tag ≠ c.tag → p ∈ u.live) (tags : (u.live.map Order.tag).Nodup)
    (queues : u.queues = t.queues) (rest_ : u.backlog = rest) : u.Agrees busy := by
  have queue (n : NodeId) : u.queue n = t.queue n := by unfold OrderTable.queue; rw [queues]
  obtain ⟨o, ho, ended, tag, -⟩ := ok.backlogOnly c (by rw [backlog]; exact List.mem_cons_self)
  have out : ¬ o.state.inQueue := by
    rw [ended]
    rintro (q | q) <;> cases q
  have other {p : Order} (hp : p ∈ t.live) (state : p.state.inQueue) : p.tag ≠ c.tag := by
    intro e
    rw [ok.eq hp ho (e.trans tag)] at state
    exact out state
  have once := ok.backlogOnce
  rw [backlog, List.map_cons] at once
  obtain ⟨first, once⟩ := List.nodup_cons.1 once
  constructor
  case tags => exact tags
  case queueOnce => intro n; rw [queue]; exact ok.queueOnce n
  case queueOnly =>
    intro n v hv
    rw [queue] at hv
    obtain ⟨p, hp, e, node, state⟩ := ok.queueOnly n v hv
    exact ⟨p, others hp (other hp state), e, node, state⟩
  case queueAll =>
    intro p hp state
    rw [queue]
    rcases mem hp with ⟨q, -, -, rfl⟩ | ⟨hp, -⟩
    · rcases state with state | state <;> cases state
    · exact ok.queueAll p hp state
  case activeHead =>
    intro p hp state
    rw [queue]
    rcases mem hp with ⟨q, -, -, rfl⟩ | ⟨hp, -⟩
    · cases state
    · exact ok.activeHead p hp state
  case backlogOnce => rw [rest_]; exact once
  case backlogOnly =>
    intro d hd
    rw [rest_] at hd
    obtain ⟨p, hp, stands⟩ := ok.backlogOnly d (by rw [backlog]; exact List.mem_cons_of_mem _ hd)
    refine ⟨p, others hp fun e => first ?_, stands⟩
    rw [← e, ← stands.2.1]
    exact List.mem_map_of_mem hd
  case backlogAll =>
    intro p hp ended
    rw [rest_]
    rcases mem hp with ⟨q, -, -, rfl⟩ | ⟨hp, other⟩
    · cases ended
    · obtain ⟨d, hd, e⟩ := ok.backlogAll p hp ended
      rw [backlog] at hd
      rcases List.mem_cons.1 hd with rfl | hd
      · exact absurd e.symm other
      · exact ⟨d, hd, e⟩
  case inFlight =>
    intro k v b
    obtain ⟨p, hp, e, active, trunk⟩ := ok.inFlight k v b
    exact ⟨p, others hp (other hp (.inr active)), e, active, trunk⟩

/-- A PARKED order is retired (R28). -/
theorem retire {o : Order} (h : o ∈ t.live) (parked : o.state = .parked) : (t.release o.tag).Agrees busy := by
  have mem {p : Order} : p ∈ (t.release o.tag).live ↔ p ∈ t.live ∧ p.tag ≠ o.tag := OrderTable.mem_release
  have other {p : Order} (hp : p ∈ t.live) (state : p.state ≠ .parked) : p.tag ≠ o.tag := by
    intro e
    rw [ok.eq hp h e] at state
    exact state parked
  constructor
  case tags => exact OrderTable.tags_release ok.tags
  case queueOnce => exact ok.queueOnce
  case queueOnly =>
    intro n u hu
    obtain ⟨p, hp, e, node, state⟩ := ok.queueOnly n u hu
    exact ⟨p, mem.2 ⟨hp, other hp (by rcases state with state | state <;> rw [state] <;> decide)⟩, e, node, state⟩
  case queueAll => exact fun p hp => ok.queueAll p (mem.1 hp).1
  case activeHead => exact fun p hp => ok.activeHead p (mem.1 hp).1
  case backlogOnce => exact ok.backlogOnce
  case backlogOnly =>
    intro c hc
    obtain ⟨p, hp, stands⟩ := ok.backlogOnly c hc
    exact ⟨p, mem.2 ⟨hp, other hp (by rw [stands.1]; decide)⟩, stands⟩
  case backlogAll => exact fun p hp => ok.backlogAll p (mem.1 hp).1
  case inFlight =>
    intro k u b
    obtain ⟨p, hp, e, active, trunk⟩ := ok.inFlight k u b
    exact ⟨p, mem.2 ⟨hp, other hp (by rw [active]; decide)⟩, e, active, trunk⟩

/-- A FILLING order is added (R6). -/
theorem add {o : Order} (free : t.hasFree = true) (fresh : t.find o.tag = none) (filling : o.state = .filling) :
    (t.add o).Agrees busy := by
  have mem {p : Order} : p ∈ (t.add o).live ↔ p = o ∨ p ∈ t.live := OrderTable.mem_add free
  have out {q : OrderState} (e : q ≠ .filling) : o.state ≠ q := by rw [filling]; exact e.symm
  constructor
  case tags => exact OrderTable.tags_add free ok.tags fresh
  case queueOnce => exact ok.queueOnce
  case queueOnly =>
    intro n u hu
    obtain ⟨p, hp, h⟩ := ok.queueOnly n u hu
    exact ⟨p, mem.2 (.inr hp), h⟩
  case queueAll =>
    intro p hp state
    rcases mem.1 hp with rfl | hp
    · rcases state with state | state
      · exact absurd state (out (by decide))
      · exact absurd state (out (by decide))
    · exact ok.queueAll p hp state
  case activeHead =>
    intro p hp active
    rcases mem.1 hp with rfl | hp
    · exact absurd active (out (by decide))
    · exact ok.activeHead p hp active
  case backlogOnce => exact ok.backlogOnce
  case backlogOnly =>
    intro c hc
    obtain ⟨p, hp, h⟩ := ok.backlogOnly c hc
    exact ⟨p, mem.2 (.inr hp), h⟩
  case backlogAll =>
    intro p hp ended
    rcases mem.1 hp with rfl | hp
    · exact absurd ended (out (by decide))
    · exact ok.backlogAll p hp ended
  case inFlight =>
    intro k u b
    obtain ⟨p, hp, h⟩ := ok.inFlight k u b
    exact ⟨p, mem.2 (.inr hp), h⟩

/-- An order enters QUEUED: a new one, or one that was FILLING (R8). -/
theorem enter {u : OrderTable} {p : Order} {q : List Byte} (queued : p.state = .queued)
    (old : ∀ o ∈ t.live, o.tag = p.tag → o.state = .filling) (tags : (u.live.map Order.tag).Nodup)
    (mem : ∀ {o : Order}, o ∈ u.live ↔ o = p ∨ (o ∈ t.live ∧ o.tag ≠ p.tag))
    (queue : ∀ n : NodeId, u.queue n = if n = p.node then q else t.queue n) (placed : q.Perm (p.tag :: t.queue p.node))
    (head : ∀ o ∈ t.live, o.state = .active → o.node = p.node → q.head? = some o.tag) (backlog : u.backlog = t.backlog) :
    u.Agrees busy := by
  have other {o : Order} (h : o ∈ t.live) (state : o.state ≠ .filling) : o.tag ≠ p.tag := fun e => state (old o h e)
  have fresh (n : NodeId) : p.tag ∉ t.queue n := by
    intro in_
    obtain ⟨o, ho, e, -, state⟩ := ok.queueOnly n _ in_
    rw [old o ho e] at state
    rcases state with state | state <;> cases state
  constructor
  case tags => exact tags
  case queueOnce =>
    intro n
    rw [queue]
    split
    · exact placed.nodup_iff.2 (List.nodup_cons.2 ⟨fresh _, ok.queueOnce _⟩)
    · exact ok.queueOnce n
  case queueOnly =>
    intro n v hv
    have later (hv : v ∈ t.queue n) : ∃ o ∈ u.live, o.tag = v ∧ o.node = n ∧ o.state.inQueue := by
      obtain ⟨o, ho, e, node, state⟩ := ok.queueOnly n v hv
      exact ⟨o, mem.2 (.inr ⟨ho, other ho (by rcases state with state | state <;> rw [state] <;> decide)⟩), e, node, state⟩
    rw [queue] at hv
    split at hv
    · rename_i own
      rcases List.mem_cons.1 (placed.mem_iff.1 hv) with rfl | hv
      · exact ⟨p, mem.2 (.inl rfl), rfl, own.symm, .inl queued⟩
      · exact later (own ▸ hv)
    · exact later hv
  case queueAll =>
    intro o ho state
    rw [queue]
    rcases mem.1 ho with rfl | ⟨ho, -⟩
    · rw [if_pos rfl]
      exact placed.mem_iff.2 List.mem_cons_self
    · have in_ := ok.queueAll o ho state
      split
      · rename_i own
        exact placed.mem_iff.2 (List.mem_cons_of_mem _ (own ▸ in_))
      · exact in_
  case activeHead =>
    intro o ho active
    rw [queue]
    rcases mem.1 ho with rfl | ⟨ho, -⟩
    · rw [queued] at active
      cases active
    · split
      · exact head o ho active ‹_›
      · exact ok.activeHead o ho active
  case backlogOnce => rw [backlog]; exact ok.backlogOnce
  case backlogOnly =>
    intro c hc
    rw [backlog] at hc
    obtain ⟨o, ho, stands⟩ := ok.backlogOnly c hc
    exact ⟨o, mem.2 (.inr ⟨ho, other ho (by rw [stands.1]; decide)⟩), stands⟩
  case backlogAll =>
    intro o ho ended
    rw [backlog]
    rcases mem.1 ho with rfl | ⟨ho, -⟩
    · rw [queued] at ended
      cases ended
    · exact ok.backlogAll o ho ended
  case inFlight =>
    intro k v b
    obtain ⟨o, ho, e, active, trunk⟩ := ok.inFlight k v b
    exact ⟨o, mem.2 (.inr ⟨ho, other ho (by rw [active]; decide)⟩), e, active, trunk⟩

end OrderTable.Agrees

end Sys2Proof.Machine
end

section
/-! PROOFS. Every act keeps the agreement of the Order Table and the queue lengths. -/

namespace Sys2Proof.Machine

open Sys2Proof

variable {K J : Prop}

/-! ## The agreement, act by act -/

theorem ordersInv_of_same {s t : State} (inv : s.OrdersInv) (table : t.table = s.table)
    (busy : ∀ k tag, t.busy k tag → s.busy k tag) : t.OrdersInv := by
  rw [ordersInv_iff] at inv ⊢
  rw [table]
  exact inv.of_busy busy

theorem busy_of_engines {s t : State} (h : t.engines = s.engines) (k : TrunkId) (tag : Byte) (b : t.busy k tag) : s.busy k tag := by
  unfold State.busy at *
  rwa [h] at b

theorem ordersInv_postHead {s : State} (inv : s.OrdersInv) : s.postHead.OrdersInv := by
  rcases State.postHead_eq s with same | ⟨c, rest, backlog, -, posted⟩
  · rw [same]
    exact inv
  · rw [posted]
    rw [ordersInv_iff] at inv
    obtain ⟨o, ho, ended, tag, -⟩ := inv.backlogOnly c (by rw [backlog]; exact List.mem_cons_self)
    have kept : (s.posted c rest).table.Agrees s.busy := by
      show (if c.kind = .bulkFetch ∧ 0 < c.progress then
        OrderTable.update c.tag (fun o => { o with state := .parked }) { s.table with backlog := rest }
        else OrderTable.release c.tag { s.table with backlog := rest }).Agrees s.busy
      split
      · have mem {p : Order} := OrderTable.mem_update_of (t := { s.table with backlog := rest }) inv.tags ho
          (f := fun o => { o with state := .parked }) (o := p)
        rw [tag]
        refine inv.post backlog (fun {p} hp => ?_) (fun {p} hp other => ?_) ?_ rfl rfl
        · rcases mem.1 hp with rfl | ⟨hp, other⟩
          · exact .inl ⟨o, ho, tag.symm, rfl⟩
          · exact .inr ⟨hp, tag ▸ other⟩
        · exact mem.2 (.inr ⟨hp, tag ▸ other⟩)
        · exact OrderTable.nodup_update (f := fun o => { o with state := .parked }) (fun _ => rfl) inv.tags
      · refine inv.post backlog (fun {p} hp => .inr (OrderTable.mem_release.1 hp)) (fun {p} hp other => ?_) ?_ rfl rfl
        · exact OrderTable.mem_release.2 ⟨hp, other⟩
        · exact OrderTable.tags_release (t := { s.table with backlog := rest }) inv.tags
    exact (ordersInv_iff _).2 kept

theorem ordersInv_closeOrder {s : State} {o : Order} (inv : s.OrdersInv) (found : s.table.find o.tag = some o)
    (open_ : o.state.unended = true) (idle : s.orderInFlight o = false) (r : Result) (nak : Byte) :
    (s.closeOrder o r nak).OrdersInv := by
  rw [ordersInv_iff] at inv
  rw [State.closeOrder_eq, ordersInv_iff]
  refine inv.endEntry (OrderTable.find_some found).1 open_ (fun b => ?_) r nak _ _
  rw [(orderInFlight_iff s o).2 b] at idle
  cases idle

theorem ordersInv_endOrder {s : State} {tag : Byte} (inv : s.OrdersInv)
    (open_ : ∀ o, s.table.find tag = some o → o.state.unended = true ∧ s.orderInFlight o = false) (r : Result) (nak : Byte) :
    (s.endOrder tag r nak).OrdersInv := by
  refine endOrder_inv (p := State.OrdersInv) (fun _ => ordersInv_postHead)
    (fun s h => ordersInv_of_same (t := s.latch .backlog) h rfl fun _ _ b => b) inv fun o found => ?_
  obtain ⟨unended, idle⟩ := open_ o found
  obtain rfl := (OrderTable.find_some found).2
  exact ordersInv_closeOrder inv found unended idle r nak

theorem ordersInv_update {s : State} {tag : Byte} {f : Order → Order} (inv : s.OrdersInv)
    (keeps : ∀ o, (f o).tag = o.tag ∧ (f o).node = o.node ∧ (f o).kind = o.kind ∧ (f o).state = o.state)
    (open_ : ∀ o, s.table.find tag = some o → o.state ≠ .ended) : (s.modTable (OrderTable.update tag f)).OrdersInv := by
  rw [ordersInv_iff] at inv ⊢
  refine inv.update keeps fun o ho e => open_ o ?_
  rw [← e]
  exact inv.found ho

theorem fetchPlaced_busy {s : State} (o : Order) (payload : List Byte) (k : TrunkId) (tag : Byte)
    (b : (fetchPlaced o payload s).busy k tag) : s.busy k tag := by
  rw [fetchPlaced_eq] at b
  exact b

theorem ordersInv_fetchPlaced {s : State} {o : Order} (inv : s.OrdersInv) (payload : List Byte)
    (found : s.table.find o.tag = some o) (active : o.state = .active) : (fetchPlaced o payload s).OrdersInv := by
  have placed := ordersInv_update (f := fun p => { p with progress := o.progress + payload.length }) inv
    (fun _ => ⟨rfl, rfl, rfl, rfl⟩) (tag := o.tag) fun p hp => by
      rw [found] at hp
      cases hp
      rw [active]
      decide
  refine ordersInv_of_same placed ?_ (fetchPlaced_busy o payload)
  rw [fetchPlaced_eq]
  rfl

/-- The order found after data of a fetch has been placed. -/
theorem fetchPlaced_find {s : State} {o p : Order} {payload : List Byte} (found : s.table.find o.tag = some o)
    (h : (fetchPlaced o payload s).table.find o.tag = some p) : p = { o with progress := o.progress + payload.length } := by
  rw [fetchPlaced_eq] at h
  have := OrderTable.find_update (t := s.table) (tag := o.tag)
    (f := fun p => { p with progress := o.progress + payload.length }) (fun _ => rfl) o.tag
  rw [found, Option.map_some, if_pos rfl] at this
  exact (Option.some.inj (this.symm.trans h)).symm

theorem fetchPlaced_orderInFlight {s : State} (o p : Order) (payload : List Byte) :
    (fetchPlaced o payload s).orderInFlight p = s.orderInFlight p := by
  rw [fetchPlaced_eq]
  rfl

theorem OrderTable.head_some {t : OrderTable} {n : NodeId} {o : Order} (h : t.head n = some o) :
    (t.queue n).head? = some o.tag ∧ t.find o.tag = some o := by
  unfold OrderTable.head at h
  split at h
  · cases h
  · rename_i tag rest e
    obtain rfl := (OrderTable.find_some h).2
    exact ⟨by rw [e]; rfl, h⟩

theorem OrderTable.Agrees.head_node {t : OrderTable} {busy : TrunkId → Byte → Prop} (ok : t.Agrees busy) {n : NodeId} {o : Order}
    (h : t.head n = some o) : o.node = n := by
  obtain ⟨head, found⟩ := OrderTable.head_some h
  exact (ok.node_of_queued (OrderTable.find_some found).1 (List.mem_of_mem_head? head)).1

@[simp] theorem State.orderExchange_order (n : NodeId) (o : Order) (s : State) : (s.orderExchange n o).order = some o.tag := by
  unfold State.orderExchange
  split
  · split
    · rename_i same
      exact congrArg some same
    · rfl
  · rfl

@[simp] theorem State.orderExchange_node (n : NodeId) (o : Order) (s : State) : (s.orderExchange n o).node = some n := by
  unfold State.orderExchange
  split
  · split <;> rfl
  · rfl

theorem ordersInv_start {s : State} {n : NodeId} {o : Order} (inv : s.OrdersInv) (burst : Nat) (head : s.table.head n = some o)
    (offered : o.state = .queued ∨ o.state = .active) : (s.startOrderExchange n o burst).OrdersInv := by
  rw [ordersInv_iff] at inv
  obtain ⟨first, found⟩ := OrderTable.head_some head
  obtain rfl := inv.head_node head
  rw [State.startOrderExchange_eq, ordersInv_iff]
  refine inv.activate (OrderTable.find_some found).1 offered first fun k tag b => ?_
  obtain ⟨x, hx, order⟩ := b
  change (upd s.engines (trunkOf o.node) _)[k].exch = some x at hx
  rw [upd_get] at hx
  split at hx
  · rename_i own
    cases hx
    rw [State.orderExchange_order] at order
    exact .inr ⟨own, (Option.some.inj order).symm⟩
  · exact .inl ⟨x, hx, order⟩

theorem ordersInv_engine {s : State} {t : TrunkId} {f : Engine → Engine} (inv : s.OrdersInv)
    (h : EngineStep s t (f s.engines[t])) : (s.modEngine t f).OrdersInv := by
  refine ordersInv_of_same inv rfl fun k tag b => ?_
  obtain ⟨x, hx, order⟩ := b
  rw [State.modEngine_engines, upd_get] at hx
  split at hx
  · rename_i own
    subst own
    rcases h.exch with ⟨y, z, hy, hz, -, -, same⟩ | ⟨y, hy, none, -⟩ | none
    · obtain rfl : x = y := Option.some.inj (hx.symm.trans hy)
      exact ⟨z, hz, same ▸ order⟩
    · obtain rfl : x = y := Option.some.inj (hx.symm.trans hy)
      rw [none] at order
      cases order
    · rw [none] at hx
      cases hx
  · exact ⟨x, hx, order⟩

/-- An order of a table enters QUEUED, new in it or FILLING before (R6, R20). -/
theorem OrderTable.Agrees.entered {t u : OrderTable} {busy : TrunkId → Byte → Prop} (ok : t.Agrees busy) {w : Order}
    (tags : (u.live.map Order.tag).Nodup) (live : w ∈ u.live)
    (others : ∀ {o : Order}, o.tag ≠ w.tag → (o ∈ u.live ↔ o ∈ t.live)) (old : ∀ o ∈ t.live, o.tag = w.tag → o.state = .filling)
    (queues : u.queues = t.queues) (backlog : u.backlog = t.backlog) : (u.entered w.tag).Agrees busy := by
  have mem {o : Order} := OrderTable.mem_update_of tags live (f := fun o => { o with state := .queued }) (o := o)
  have nodup := OrderTable.nodup_update (tag := w.tag) (f := fun o => { o with state := .queued }) (fun _ => rfl) tags
  have queue (n : NodeId) : u.queue n = t.queue n := by unfold OrderTable.queue; rw [queues]
  have placed := OrderTable.placed_perm (u.update w.tag fun o => { o with state := .queued }) { w with state := .queued }
  rw [OrderTable.entered_eq (OrderTable.find_live tags live)]
  refine ok.enter (p := { w with state := .queued }) rfl old nodup ?_
    (fun n => (OrderTable.enqueue_queue _ _ n).trans ?_) (placed.trans ?_) (fun o ho active own => ?_) backlog
  · intro o
    rw [OrderTable.enqueue_live, mem]
    exact or_congr_right (and_congr_left fun other => others other)
  · rw [OrderTable.update_queue, queue]
  · rw [OrderTable.update_queue, queue]
  · have other : o.tag ≠ w.tag := by
      intro e
      rw [old o ho e] at active
      cases active
    have found := OrderTable.find_live nodup (mem.2 (.inr ⟨(others other).2 ho, other⟩))
    refine OrderTable.placed_head _ _ o found active ?_
    rw [OrderTable.update_queue, queue, ← own]
    exact ok.activeHead o ho active

/-- What the tests of SUBMIT_ORDER leave (R5). -/
theorem submitTests_passed {o : Order} {s : State} (tests : ∀ c ∈ submitTests o s, c.1 = false) :
    s.table.find o.tag = none ∧ s.table.hasFree = true ∧ (o.kind ≠ .bulkSend → (s.table.queue o.node).length < 6) ∧
      (o.kind.isBulk = true → segmentsFor o.length ≤ s.pool.freeList.length) := by
  simp [submitTests, State.queueFull, Config.nodeQueueLimit] at tests
  obtain ⟨tag, free, -, -, room, segments⟩ := tests
  refine ⟨by simpa using tag, free, fun kind => ?_, fun bulk => ?_⟩
  · have := room kind
    omega
  · have := segments bulk
    omega

/-- The form of a submitted order (R6). -/
theorem submittedOrder_form {p : List Byte} {now : Word} {o : Order} (form : submittedOrder p now = some o) :
    o.state = (if o.kind = .bulkSend then .filling else .queued) ∧ o.fill = 0 ∧ o.progress = 0 ∧
      o.kind.lengthOk o.length = true := by
  unfold submittedOrder at form
  dsimp only at form
  split at form
  · obtain ⟨fields, entry⟩ := Option.ite_none_right_eq_some.1 form
    cases entry
    exact ⟨rfl, rfl, rfl, fields.2.1⟩
  · cases form

theorem ordersInv_submit {s : State} {p : List Byte} {o : Order} (inv : s.OrdersInv)
    (form : submittedOrder p s.interval.tick = some o) (tests : ∀ c ∈ submitTests o s, c.1 = false) :
    (submitPlaced o s).OrdersInv := by
  obtain ⟨fresh, free, -, -⟩ := submitTests_passed tests
  obtain ⟨state, -⟩ := submittedOrder_form form
  rw [ordersInv_iff] at inv
  have placed : (submitPlaced o s).table.Agrees s.busy := by
    rw [submitPlaced_table]
    split
    · rename_i send
      rw [if_pos send] at state
      exact inv.add (o := o.withChain s.pool) free fresh state
    · have mem {q : Order} : q ∈ (s.table.add (o.withChain s.pool)).live ↔ q = o.withChain s.pool ∨ q ∈ s.table.live :=
        OrderTable.mem_add free
      have tags := OrderTable.tags_add (p := o.withChain s.pool) free inv.tags fresh
      refine inv.entered (w := o.withChain s.pool) tags (mem.2 (.inl rfl)) (fun other => ?_) (fun q hq e => ?_) rfl rfl
      · rw [mem]
        exact ⟨fun h => h.resolve_left fun e => other (by rw [e]), .inr⟩
      · exact absurd e (OrderTable.find_none.1 fresh q hq)
  refine (ordersInv_iff _).2 (placed.of_busy fun k tag b => ?_)
  rw [submitPlaced_eq] at b
  exact b

theorem ordersInv_commit {s : State} {tag : Byte} {o : Order} (inv : s.OrdersInv) (found : s.table.find tag = some o)
    (filling : o.state = .filling) : (commitPlaced o s).OrdersInv := by
  obtain ⟨live, -⟩ := OrderTable.find_some found
  rw [ordersInv_iff] at inv
  have placed : (commitPlaced o s).table.Agrees s.busy := by
    rw [commitPlaced_table]
    refine inv.entered inv.tags live (fun _ => Iff.rfl) (fun q hq e => ?_) rfl rfl
    rw [inv.eq hq live e]
    exact filling
  refine (ordersInv_iff _).2 (placed.of_busy fun k tag b => ?_)
  rw [commitPlaced_eq] at b
  exact b

/-- Every act keeps the agreement of the Order Table, when it held where the chain of acts starts. -/
theorem Act.ordersInv {s t : State} (h : Act K J s t) (k : K) (inv : s.OrdersInv) : t.OrdersInv := by
  have same {t : State} (table : t.table = s.table) (engines : t.engines = s.engines) : t.OrdersInv :=
    ordersInv_of_same inv table (busy_of_engines engines)
  cases h with
  | aside h => exact same h.table h.engines
  | notices | attention | settings | drop | hold => exact same rfl rfl
  | take r =>
    refine post_inv (p := State.OrdersInv) (fun _ => ordersInv_postHead) s.table.backlog.length
      (s := s.modCompletions fun q => ({ q with records := q.records.drop r }).testHead s.interval.tick)
      (same rfl rfl) |> fun posted => ?_
    exact ordersInv_of_same posted rfl (busy_of_engines rfl)
  | endOrder tag r nak open_ => exact ordersInv_endOrder inv (open_ k) r nak
  | update tag f keeps open_ =>
    refine ordersInv_update inv (fun o => ?_) fun o found => (open_ k o found).1
    rw [keeps o]
    exact ⟨rfl, rfl, rfl, rfl⟩
  | sent o g rest n found chain kind active =>
    have sent := ordersInv_update (f := fun p => { p with progress := n, chain := rest }) (tag := o.tag) inv
      (fun _ => ⟨rfl, rfl, rfl, rfl⟩) fun p hp => by
        rw [found] at hp
        cases hp
        rw [active k]
        decide
    exact ordersInv_of_same sent rfl fun _ _ b => b
  | landed o payload found kind active => exact ordersInv_fetchPlaced inv payload found (active k)
  | landedLast o payload found kind active =>
    obtain ⟨active, idle⟩ := active k
    refine ordersInv_endOrder (ordersInv_fetchPlaced inv payload found active) (fun p hp => ?_) _ _
    rw [fetchPlaced_find found hp, fetchPlaced_orderInFlight]
    exact ⟨by rw [show ({ o with progress := o.progress + payload.length } : Order).state = o.state from rfl, active]; rfl, idle⟩
  | engine t f h => exact ordersInv_engine inv h
  | start n o burst head offered => exact ordersInv_start inv burst head offered
  | submit p o form tests => exact ordersInv_submit inv form tests
  | fill tag o offset data n found filling =>
    have filled := ordersInv_update (f := fun o => { o with fill := o.fill + n }) (tag := tag) inv
      (fun _ => ⟨rfl, rfl, rfl, rfl⟩) fun p hp => by
        rw [found] at hp
        cases hp
        rw [filling]
        decide
    exact ordersInv_of_same filled rfl fun _ _ b => b
  | commit tag o found filling => exact ordersInv_commit inv found filling
  | retire tag o found parked =>
    rw [ordersInv_iff] at inv ⊢
    exact inv.retire (OrderTable.find_some found).1 parked

theorem Acts.ordersInv {s t : State} (h : Acts K J s t) (k : K) (inv : s.OrdersInv) : t.OrdersInv := by
  induction h with
  | refl => exact inv
  | tail _ last ih => exact last.ordersInv k ih

/-! ## The queue lengths -/

theorem queueInv_of_queues {s t : State} (inv : s.queueInv) (h : t.table.queues = s.table.queues) : t.queueInv := by
  intro n
  have := inv n
  unfold OrderTable.queue at this ⊢
  rwa [h]

theorem queueInv_postHead {s : State} (inv : s.queueInv) : s.postHead.queueInv := by
  rcases State.postHead_eq s with same | ⟨c, rest, -, -, posted⟩
  · rw [same]
    exact inv
  · rw [posted]
    refine queueInv_of_queues inv ?_
    show (if c.kind = .bulkFetch ∧ 0 < c.progress then
        OrderTable.update c.tag (fun o => { o with state := .parked }) { s.table with backlog := rest }
        else OrderTable.release c.tag { s.table with backlog := rest }).queues = _
    split <;> rfl

theorem queueInv_endOrder {s : State} (tag : Byte) (r : Result) (nak : Byte) (inv : s.queueInv) :
    (s.endOrder tag r nak).queueInv := by
  refine endOrder_inv (p := State.queueInv) (fun _ => queueInv_postHead) (fun _ h => h) inv fun o _ n => ?_
  rw [State.closeOrder_eq]
  show ((s.table.endEntry o r nak _ _).queue n).length ≤ 6
  rw [OrderTable.endEntry_queue]
  split
  · exact (List.length_filter_le _ _).trans (inv n)
  · exact inv n

theorem entered_queue_length {t : OrderTable} {tag : Byte} {o : Order} (found : t.find tag = some o)
    (room : (t.queue o.node).length < 6) (short : ∀ n, (t.queue n).length ≤ 6) (n : NodeId) :
    ((t.entered tag).queue n).length ≤ 6 := by
  rw [OrderTable.entered_eq found, OrderTable.enqueue_queue]
  split
  · rw [(OrderTable.placed_perm _ _).length_eq]
    exact room
  · exact short n

theorem Act.queueInv {s t : State} (h : Act K J s t) (inv : s.queueInv) : t.queueInv := by
  have same {t : State} (queues : t.table.queues = s.table.queues) : t.queueInv := queueInv_of_queues inv queues
  cases h with
  | aside h => exact same (by rw [h.table])
  | take r => exact post_inv (p := State.queueInv) (fun _ => queueInv_postHead) s.table.backlog.length (s := s.modCompletions _) inv
  | endOrder tag r nak => exact queueInv_endOrder tag r nak inv
  | landed o payload =>
    rw [fetchPlaced_eq]
    exact same rfl
  | landedLast o payload =>
    refine queueInv_endOrder _ _ _ ?_
    rw [fetchPlaced_eq]
    exact same rfl
  | start n o burst => exact same (GrantFrame.startOrderExchange n o burst s).queues
  | submit p o form tests =>
    obtain ⟨fresh, free, room, -⟩ := submitTests_passed tests
    intro n
    rw [submitPlaced_table]
    split
    · exact inv n
    · exact entered_queue_length (OrderTable.find_add (p := o.withChain s.pool) free fresh) (room ‹_›) inv n
  | commit tag o found filling room =>
    obtain rfl := (OrderTable.find_some found).2
    intro n
    rw [commitPlaced_table]
    exact entered_queue_length found room inv n
  | notices | attention | settings | update | sent | drop | hold | engine | fill | retire => exact same rfl

end Sys2Proof.Machine
end

section
/-! PROOFS. The operations of a part in service as chains of acts. -/

namespace Sys2Proof.Machine

open Sys2Proof

theorem orderInFlight_eq_false (s : State) (o : Order) : s.orderInFlight o = false ↔ ¬ s.busy (trunkOf o.node) o.tag := by
  rw [← orderInFlight_iff, Bool.not_eq_true]

theorem OrdersInv.idle {s : State} (inv : s.OrdersInv) {tag : Byte} {o : Order} (found : s.table.find tag = some o)
    (waiting : o.state ≠ .active) : s.orderInFlight o = false := by
  rw [ordersInv_iff] at inv
  exact (orderInFlight_eq_false s o).2 (inv.not_busy (OrderTable.find_some found).1 waiting _)

/-- No order of a trunk without an exchange is in flight. -/
theorem orderInFlight_of_none {s : State} {t : TrunkId} {o : Order} (own : trunkOf o.node = t) (none : s.engines[t].exch = none) :
    s.orderInFlight o = false := by
  rw [orderInFlight_eq_false, own]
  rintro ⟨x, hx, -⟩
  rw [none] at hx
  cases hx

theorem State.askedBy_of {s : State} {x : Exchange} {tag : Byte} {o : Order} (order : x.order = some tag)
    (found : s.table.find tag = some o) : s.askedBy x = o.asked := by
  simp [State.askedBy, order, found]

/-- Other orders stay in their queues when an order ends. -/
theorem mem_queue_endOrder {s : State} {n : NodeId} {u tag : Byte} (h : u ∈ s.table.queue n) (other : u ≠ tag) (r : Result)
    (nak : Byte) : u ∈ (s.endOrder tag r nak).table.queue n := by
  refine endOrder_inv (p := fun s => u ∈ s.table.queue n) (fun s h => ?_) (fun _ h => h) h fun o found => ?_
  · rcases State.postHead_eq s with same | ⟨c, rest, -, -, posted⟩
    · rw [same]
      exact h
    · have queues : s.postHead.table.queues = s.table.queues := by
        rw [posted]
        show (if c.kind = .bulkFetch ∧ 0 < c.progress then
          OrderTable.update c.tag (fun o => { o with state := .parked }) { s.table with backlog := rest }
          else OrderTable.release c.tag { s.table with backlog := rest }).queues = _
        split <;> rfl
      unfold OrderTable.queue at h ⊢
      rwa [queues]
  · obtain rfl := (OrderTable.find_some found).2
    rw [State.closeOrder_eq]
    show u ∈ (s.table.endEntry o r nak _ _).queue n
    rw [OrderTable.endEntry_queue]
    split
    · simp [h, other]
    · exact h

/-- The tags in the queues of a trunk's nodes are all different (R7). -/
theorem trunkQueueTags_nodup {s : State} (inv : s.OrdersInv) (t : TrunkId) : (s.trunkQueueTags t).Nodup := by
  rw [ordersInv_iff] at inv
  refine List.nodup_flatMap.2 ⟨fun n _ => inv.queueOnce n, (trunkNodes_nodup t).imp fun {n m} other => ?_⟩
  intro tag hn hm
  obtain ⟨o, ho, rfl, rfl, -⟩ := inv.queueOnly n tag hn
  exact other (inv.node_of_queued ho hm).1

namespace Acts

variable {K J : Prop}

theorem one {s t : State} (h : Act K J s t) : Acts K J s t := .single h
theorem refl (s : State) : Acts K J s s := Relation.ReflTransGen.refl
theorem aside {s t : State} (h : SameOrders s t) : Acts K J s t := .single (.aside h)

/-- A list of operations, each a chain of acts from a state whose table agrees. -/
theorem forAll {α : Type} (f : α → State → State) (h : ∀ a u, (K → u.OrdersInv) → Acts K J u (f a u)) (l : List α) (s : State)
    (inv : K → s.OrdersInv) : Acts K J s (Machine.forAll f l s) := by
  induction l generalizing s with
  | nil => exact refl s
  | cons a l ih => exact (h a s inv).trans (ih _ fun k => (h a s inv).ordersInv k (inv k))

theorem count (t : TrunkId) (f : Counters → Counters) (s : State) : Acts K J s (s.count t f) := by
  rw [State.count_eq]
  exact aside ⟨rfl, rfl, rfl, rfl, rfl, rfl, rfl, rfl⟩

theorem latch {f : NoticeFlag} (h : f ≠ .completions) (h' : f ≠ .attention) (s : State) : Acts K J s (s.latch f) :=
  one (.notices s _ (.raise h h'))

theorem modNode (n : NodeId) (f : NodeRecord → NodeRecord) (s : State) : Acts K J s (s.modNode n f) :=
  aside ⟨rfl, rfl, rfl, rfl, rfl, rfl, rfl, rfl⟩

theorem modNodeSched (n : NodeId) (f : NodeSchedule → NodeSchedule) (s : State) : Acts K J s (s.modNodeSched n f) :=
  aside ⟨rfl, rfl, rfl, rfl, rfl, rfl, rfl, rfl⟩

theorem resetEngine (t : TrunkId) (s : State) : Acts K J s (s.modEngine t fun _ => Engine.reset) :=
  one (.engine s t _ ⟨.inr (.inr rfl), fun _ _ h => by cases h⟩)

theorem enterDisabled (t : TrunkId) (s : State) : Acts K J s (s.enterDisabled t) := by
  refine (resetEngine t s).tail (.aside ?_)
  rw [State.enterDisabled_eq]
  exact ⟨rfl, rfl, rfl, rfl, rfl, rfl, rfl, rfl⟩

/-- A claim that ends or marks one order (R21, R24 to R26). -/
theorem endOrMark (m : Mark) (tag : Byte) (s : State) (inv : K → s.OrdersInv) : Acts K J s (s.endOrMark m tag) := by
  unfold State.endOrMark
  split
  · exact refl s
  · rename_i o found
    have same {p : Order} (hp : s.table.find tag = some p) : p = o := Option.some.inj (hp.symm.trans found)
    have ends (open_ : K → o.state.unended = true ∧ s.orderInFlight o = false) : Acts K J s (s.endOrder tag m.result 0) :=
      one (.endOrder s tag _ _ fun k p hp => same hp ▸ open_ k)
    have waiting (state : o.state = .filling ∨ o.state = .queued) : Acts K J s (s.endOrder tag m.result 0) := by
      refine ends fun k => ⟨?_, OrdersInv.idle (inv k) found ?_⟩
      · rcases state with h | h <;> rw [h] <;> rfl
      · rcases state with h | h <;> rw [h] <;> decide
    split
    · exact waiting (.inl ‹_›)
    · exact waiting (.inr ‹_›)
    · rename_i active
      split
      · refine one (.update s tag _ (fun _ => rfl) fun _ p hp => ?_)
        rw [same hp, active]
        exact ⟨by decide, fun _ => rfl⟩
      · rename_i idle
        exact ends fun _ => ⟨by rw [active]; rfl, Bool.not_eq_true _ |>.mp idle⟩
    · exact refl s
    · exact refl s

/-! ## The outcome of an exchange -/

theorem endByMarkOr {tag : Byte} {f : State → State} {s : State}
    (open_ : K → ∀ o, s.table.find tag = some o → o.state.unended = true ∧ s.orderInFlight o = false)
    (otherwise : Acts K J s (f s)) : Acts K J s (s.endByMarkOr tag f) := by
  unfold State.endByMarkOr
  split
  · split
    · exact one (.endOrder s tag _ _ open_)
    · exact otherwise
  · exact refl s

/-- The order found after a change of it. -/
theorem update_found {s : State} {o p : Order} {f : Order → Order} (hf : ∀ o, (f o).tag = o.tag)
    (found : s.table.find o.tag = some o) (h : (s.table.update o.tag f).find o.tag = some p) : p = f o := by
  have := OrderTable.find_update (t := s.table) (tag := o.tag) hf o.tag
  rw [found, Option.map_some, if_pos rfl] at this
  exact (Option.some.inj (this.symm.trans h)).symm

section

variable {s : State} {o : Order} (found : s.table.find o.tag = some o)
  (open_ : K → o.state = .active ∧ s.orderInFlight o = false)

include found open_

/-- The order still has not ended, and is not in flight, after a change that keeps its place. -/
theorem still_open {u : State} {f : Order → Order} (keeps : ∀ o, (f o).tag = o.tag ∧ (f o).node = o.node ∧ (f o).state = o.state)
    (table : u.table = s.table.update o.tag f) (engines : u.engines = s.engines) (k : K) (p : Order)
    (hp : u.table.find o.tag = some p) : p.state.unended = true ∧ u.orderInFlight p = false := by
  rw [table] at hp
  obtain rfl := update_found (fun o => (keeps o).1) found hp
  obtain ⟨active, idle⟩ := open_ k
  obtain ⟨tag, node, state⟩ := keeps o
  refine ⟨by rw [state, active]; rfl, ?_⟩
  rw [orderInFlight_eq_false] at idle ⊢
  rw [node, tag]
  exact fun b => idle (busy_of_engines engines _ _ b)

theorem putEnd (f : Order → Order) (r : Result)
    (keeps : ∀ o, f o = { o with inlineData := (f o).inlineData, progress := (f o).progress, mark := (f o).mark,
                                 retries := (f o).retries }) (kind : o.kind ≠ .bulkFetch) :
    Acts K J s ((s.modTable (OrderTable.update o.tag f)).endOrder o.tag r 0) := by
  refine (one (.update s o.tag f keeps fun k p hp => ?_)).tail (.endOrder _ _ _ _ ?_)
  · rw [found] at hp
    cases hp
    exact ⟨by rw [(open_ k).1]; decide, fun fetch => absurd fetch kind⟩
  · exact still_open found open_ (fun o => by rw [keeps o]; exact ⟨rfl, rfl, rfl⟩) rfl rfl

/-- A GOOD ACK taken by its order (R13, R39, R41, R42). -/
theorem orderAck (payload : List Byte) (fits : payload.length ≤ o.asked) : Acts K J s (s.orderAck o payload) := by
  have ends (r : Result) : Acts K J s (s.endOrder o.tag r 0) := by
    refine one (.endOrder s _ _ _ fun k p hp => ?_)
    rw [found] at hp
    cases hp
    exact ⟨by rw [(open_ k).1]; rfl, (open_ k).2⟩
  unfold State.orderAck
  dsimp only
  split
  · exact putEnd found open_ _ _ (fun _ => rfl) (by simp_all)
  · exact putEnd found open_ _ _ (fun _ => rfl) (by simp_all)
  · rename_i kind
    split
    · exact refl s
    · rename_i g rest chain
      have sent := one (J := J) (.sent s o g rest (o.progress + (s.pool.seg g).fill) found chain kind fun k => (open_ k).1)
      have still := still_open found open_ (u := (s.modPool (SegmentPool.freeSegment g)).modTable
        (OrderTable.update o.tag fun p => { p with progress := o.progress + (s.pool.seg g).fill, chain := rest }))
        (f := fun p => { p with progress := o.progress + (s.pool.seg g).fill, chain := rest }) (fun _ => ⟨rfl, rfl, rfl⟩) rfl rfl
      split
      · exact sent.tail (.endOrder _ _ _ _ still)
      · exact sent.trans (endByMarkOr still (refl _))
  · rename_i kind
    show Acts K J s (if o.length ≤ o.progress + payload.length ∨ payload.length < o.asked
      then (fetchPlaced o payload s).endOrder o.tag .done 0 else (fetchPlaced o payload s).endByMarkOr o.tag id)
    split
    · exact one (.landedLast s o payload found kind open_ fits)
    · rename_i more
      refine (one (.landed s o payload found kind (fun k => (open_ k).1) ?_ ?_)).trans (endByMarkOr ?_ (refl _))
      · omega
      · omega
      · exact still_open found open_ (f := fun p => { p with progress := o.progress + payload.length })
          (fun _ => ⟨rfl, rfl, rfl⟩) (by rw [fetchPlaced_eq]) (by rw [fetchPlaced_eq])
  · split
    · exact putEnd found open_ _ _ (fun _ => rfl) (by simp_all)
    · exact putEnd found open_ _ _ (fun _ => rfl) (by simp_all)
  · exact ends _

end

/-- The Order Manager takes the outcome of an exchange whose engine has taken its end (R12 to R16). -/
theorem orderOutcome (x : Exchange) (e : Ending) (s : State)
    (open_ : K → ∀ tag o, x.order = some tag → s.table.find tag = some o → o.state = .active ∧ s.orderInFlight o = false)
    (type : J → ∀ tag o, x.order = some tag → s.table.find tag = some o → x.type = o.kind.exchangeType)
    (asked : ∀ payload, e = .ack payload → ∀ tag o, x.order = some tag → s.table.find tag = some o → payload.length ≤ o.asked) :
    Acts K J s (s.orderOutcome x e) := by
  unfold State.orderOutcome
  split
  · exact refl s
  · rename_i tag order
    dsimp only
    have retried : Acts K J s (s.modTable (OrderTable.update tag (Order.addRetries x.retriesSent))) :=
      one (.update s tag _ (fun _ => rfl) fun k o found => ⟨by rw [(open_ k tag o order found).1]; decide, fun _ => rfl⟩)
    refine retried.trans ?_
    split
    · exact refl _
    · rename_i p hp
      have find := OrderTable.find_update (t := s.table) (tag := tag) (f := Order.addRetries x.retriesSent) (fun _ => rfl) tag
      cases found : s.table.find tag with
      | none =>
        rw [found] at find
        exact absurd (find.symm.trans hp) nofun
      | some o =>
        obtain rfl := (OrderTable.find_some found).2
        obtain rfl := update_found (f := Order.addRetries x.retriesSent) (fun _ => rfl) found hp
        have open' (k : K) : (o.addRetries x.retriesSent).state = .active ∧
            (s.modTable (OrderTable.update o.tag (Order.addRetries x.retriesSent))).orderInFlight (o.addRetries x.retriesSent) = false :=
          open_ k _ o order found
        have still (k : K) (q : Order)
            (hq : (s.modTable (OrderTable.update o.tag (Order.addRetries x.retriesSent))).table.find o.tag = some q) :
            q.state.unended = true ∧
              (s.modTable (OrderTable.update o.tag (Order.addRetries x.retriesSent))).orderInFlight q = false := by
          rw [hp] at hq
          cases hq
          exact ⟨by rw [(open' k).1]; rfl, (open' k).2⟩
        split
        · exact orderAck hp open' _ (asked _ rfl _ o order found)
        · exact endByMarkOr still (one (.endOrder _ _ _ _ still))
        · refine endByMarkOr still ?_
          split
          · exact one (.endOrder _ _ _ _ still)
          · refine one (.hold _ _ _ (fun k => ⟨_, hp, rfl, (open' k).1⟩) fun j q hq => ?_)
            rw [hp] at hq
            cases hq
            exact type j _ o order found
        · exact endByMarkOr still (one (.endOrder _ _ _ _ still))

theorem endIsolated (tag : Byte) (s : State) (inv : K → s.OrdersInv) : Acts K J s (s.endIsolated tag) := by
  unfold State.endIsolated
  split
  · rename_i o found
    split
    · rename_i queued
      refine one (.endOrder s tag _ _ fun k p hp => ?_)
      rw [found] at hp
      cases hp
      exact ⟨by rw [queued]; rfl, OrdersInv.idle (inv k) found (by rw [queued]; decide)⟩
    · exact refl s
  · exact refl s

theorem isolationTest (n : NodeId) (s : State) (inv : K → s.OrdersInv) : Acts K J s (s.isolationTest n) := by
  unfold State.isolationTest
  dsimp only
  split
  · have set := modNode (K := K) (J := J) n (fun r => { r with state := .isolated }) s
    exact ((set.trans (forAll _ endIsolated _ _ fun k => Acts.ordersInv set k (inv k))).trans
      (latch (by decide) (by decide) _)).trans (count _ _ _)
  · exact refl s

theorem nodeOutcome (n : NodeId) (x : Exchange) (e : Ending) (s : State) (inv : K → s.OrdersInv) :
    Acts K J s (s.nodeOutcome n x e) := by
  have reached := modNodeSched (K := K) (J := J) n NodeSchedule.reached s
  unfold State.nodeOutcome
  dsimp only
  split
  · exact reached.trans (modNode _ _ _)
  · exact reached.trans (modNode _ _ _)
  · exact reached.trans (modNode _ _ _)
  · split
    · exact reached.trans (modNode _ _ _)
    · have failed := reached.trans (modNode n (fun r =>
        { r with
          lastExchange := s.interval.tick
          consecutive := min 7 (r.consecutive + 1)
          total := satAdd r.total 1 }) _)
      exact failed.trans (isolationTest n _ fun k => Acts.ordersInv failed k (inv k))

theorem schedulerOutcome (n : NodeId) (e : Ending) (s : State) : Acts K J s (s.schedulerOutcome n e) := by
  unfold State.schedulerOutcome
  split
  · exact modNodeSched _ _ _
  · exact refl s

theorem wake (t : TrunkId) (s : State) : Acts K J s (s.wake t) := by
  rw [State.wake_eq]
  exact aside ⟨rfl, rfl, rfl, rfl, rfl, rfl, rfl, rfl⟩

theorem attentionOutcome (n : NodeId) (c : Byte) (s : State) : Acts K J s (s.attentionOutcome n c) := by
  unfold State.attentionOutcome
  split
  · exact refl s
  · exact (one (.attention s _)).trans (wake _ _)

/-- The end of an exchange with its whole outcome (R71, R72). -/
theorem exchangeEnd {s : State} {t : TrunkId} (n : NodeId) {x y : Exchange} (e : Ending) (attention : Byte)
    (inFlight : s.engines[t].exch = some y) (same : x.SameAs y)
    (asked : ∀ payload, e = .ack payload → payload.length ≤ s.askedBy x) :
    Acts s.OrdersInv (s.OrdersInv ∧ s.ExchangesInv) s (s.exchangeEnd t n x e attention) := by
  obtain ⟨-, type, order⟩ := same
  obtain ⟨c, hc⟩ : ∃ c, c = s.count t (Counters.exchangeEnd x e (s.bytesMoved x e)) := ⟨_, rfl⟩
  have counted : Acts s.OrdersInv (s.OrdersInv ∧ s.ExchangesInv) s c := hc ▸ count t _ s
  have table : c.table = s.table := by rw [hc, State.count_eq]
  have ended : Acts s.OrdersInv (s.OrdersInv ∧ s.ExchangesInv) c (c.modEngine t (Engine.exchangeEnded e.isAck)) := by
    refine one (.engine c t _ ⟨.inr (.inr rfl), fun g m hg hm => .inr ?_⟩)
    obtain ⟨g', hg', rfl⟩ := Option.map_eq_some_iff.1 hg
    exact ⟨g', hg', hm⟩
  have free : (c.modEngine t (Engine.exchangeEnded e.isAck)).engines[t].exch = none := by
    rw [State.modEngine_engines, upd_same]
    rfl
  have served (inv : s.OrdersInv) (tag : Byte) (o : Order) (hx : x.order = some tag) (found : s.table.find tag = some o) :
      y.order = some o.tag ∧ o.state = .active ∧ trunkOf o.node = t := by
    rw [ordersInv_iff] at inv
    obtain ⟨p, hp, rfl, active, own⟩ := inv.inFlight t tag ⟨y, inFlight, order ▸ hx⟩
    obtain rfl : o = p := Option.some.inj (found.symm.trans (inv.found hp))
    exact ⟨order ▸ hx, active, own⟩
  have taken : Acts s.OrdersInv (s.OrdersInv ∧ s.ExchangesInv) (c.modEngine t (Engine.exchangeEnded e.isAck))
      ((c.modEngine t (Engine.exchangeEnded e.isAck)).orderOutcome x e) := by
    refine orderOutcome x e _ (fun inv tag o hx found => ?_) (fun inv tag o hx found => ?_) fun payload ack tag o hx found => ?_
    · rw [State.modEngine_table, table] at found
      obtain ⟨-, active, own⟩ := served inv tag o hx found
      exact ⟨active, orderInFlight_of_none own free⟩
    · rw [State.modEngine_table, table] at found
      obtain ⟨hy, -, -⟩ := served inv.1 tag o hx found
      rw [type]
      exact (inv.2.ofOrder t y o inFlight (OrderTable.find_some found).1 hy).2
    · rw [State.modEngine_table, table] at found
      have := asked payload ack
      rwa [State.askedBy_of hx found] at this
  have order := (counted.trans ended).trans taken
  have noded := order.trans (nodeOutcome n x e _ fun inv => Acts.ordersInv order inv inv)
  have outcome : Acts s.OrdersInv (s.OrdersInv ∧ s.ExchangesInv) s (s.takeOutcome t n x e attention) := by
    unfold State.takeOutcome
    rw [← hc]
    exact (noded.trans (schedulerOutcome n e _)).trans (attentionOutcome n attention _)
  rw [State.exchangeEnd_eq]
  split
  · exact outcome.trans (enterDisabled t _)
  · exact outcome

/-! ## The faults of a supply -/

theorem abortExchange (t : TrunkId) (s : State) : Acts K J s (s.abortExchange t) := by
  have dropped (l : List NodeId) (u : State) : Acts K J u (Machine.forAll (fun n => State.setHeld n none) l u) :=
    forAll_rel refl (fun h k => h.trans k) _ (fun n s => one (.drop s n)) l u
  unfold State.abortExchange
  dsimp only
  split
  · split
    · exact ((count _ _ s).trans (resetEngine t _)).trans (dropped _ _)
    · exact (resetEngine t s).trans (dropped _ _)
  · exact (resetEngine t s).trans (dropped _ _)

/-- The orders of a trunk without an exchange end one after another. -/
theorem endAll (t : TrunkId) (r : Result) (l : List Byte) (s : State) (inv : K → s.OrdersInv)
    (queued : K → ∀ tag ∈ l, ∃ n, trunkOf n = t ∧ tag ∈ s.table.queue n) (once : K → l.Nodup)
    (free : s.engines[t].exch = none) : Acts K J s (Machine.forAll (fun tag => State.endOrder tag r 0) l s) := by
  induction l generalizing s with
  | nil => exact refl s
  | cons tag l ih =>
    have ended : Acts K J s (s.endOrder tag r 0) := by
      refine one (.endOrder s tag r 0 fun k o found => ?_)
      obtain ⟨n, own, mem⟩ := queued k tag List.mem_cons_self
      have ok := (ordersInv_iff s).1 (inv k)
      obtain ⟨live, rfl⟩ := OrderTable.find_some found
      obtain ⟨rfl, state⟩ := ok.node_of_queued live mem
      refine ⟨?_, orderInFlight_of_none own free⟩
      rcases state with h | h <;> rw [h] <;> rfl
    refine ended.trans (ih _ (fun k => Acts.ordersInv ended k (inv k)) (fun k u hu => ?_)
      (fun k => (List.nodup_cons.1 (once k)).2) ?_)
    · obtain ⟨n, own, mem⟩ := queued k u (List.mem_cons_of_mem _ hu)
      refine ⟨n, own, mem_queue_endOrder mem (fun e => ?_) _ _⟩
      exact (List.nodup_cons.1 (once k)).1 (e ▸ hu)
    · rw [(OrderFrame.endOrder tag r 0 s).engines]
      exact free

theorem wentDown (t : TrunkId) (s : State) : Acts K J s (s.wentDown t) := by
  have noticed : Acts K J s (s.faultNotice t) :=
    one (.notices s _ ((LevelKeeping.raise (by decide) (by decide)).faultSeen fun n => upd n.faultSeen t fun _ => true))
  refine noticed.tail (.aside ?_)
  rw [State.wentDown_eq]
  exact ⟨rfl, rfl, rfl, rfl, rfl, rfl, rfl, rfl⟩

theorem abortExchange_free (t : TrunkId) (s : State) : (s.abortExchange t).engines[t].exch = none := by
  rw [State.abortExchange_eq]
  show (upd s.engines t _)[t].exch = none
  rw [upd_same]
  rfl

/-- A fault of a running trunk (R115). -/
theorem faultRunning (t : TrunkId) (s : State) (inv : K → s.OrdersInv) : Acts K J s (s.faultRunning t) := by
  have aborted := abortExchange (K := K) (J := J) t s
  have agreed := fun k => Acts.ordersInv aborted k (inv k)
  rw [State.faultRunning_eq]
  refine (aborted.trans (endAll t _ _ _ agreed (fun k tag h => ?_) (fun k => trunkQueueTags_nodup (agreed k) t)
    (abortExchange_free t s))).trans (wentDown t _)
  obtain ⟨n, hn, mem⟩ := List.mem_flatMap.1 h
  exact ⟨n, (mem_trunkNodes t n).1 hn, mem⟩

/-- A fault in STOPPING (R116). -/
theorem faultStopping (t : TrunkId) (s : State) (inv : K → s.OrdersInv) : Acts K J s (s.faultStopping t) := by
  have aborted := abortExchange (K := K) (J := J) t s
  have ended : Acts K J s (s.stoppingOrderEnded t) := by
    unfold State.stoppingOrderEnded
    split
    · rename_i tag order
      obtain ⟨x, hx, order⟩ := Option.bind_eq_some_iff.1 order
      refine aborted.tail (.endOrder _ _ _ _ fun k o found => ?_)
      have table : (s.abortExchange t).table = s.table := by rw [State.abortExchange_eq]
      have ok := (ordersInv_iff s).1 (inv k)
      obtain ⟨p, live, rfl, active, own⟩ := ok.inFlight t tag ⟨x, hx, order⟩
      rw [table, ok.found live] at found
      cases found
      exact ⟨by rw [active]; rfl, orderInFlight_of_none own (abortExchange_free t s)⟩
    · exact aborted
  rw [State.faultStopping_eq]
  exact (ended.trans (enterDisabled t _)).tail
    (.notices _ _ ((LevelKeeping.raise (by decide) (by decide)).faultSeen fun n => upd n.faultSeen t fun _ => true))

end Acts

/-- Every change of a part in service is a chain of acts. -/
theorem Service.acts {s t : State} (h : Service s t) : Acts s.OrdersInv (s.OrdersInv ∧ s.ExchangesInv) s t := by
  cases h with
  | aside | errorCount | interval | control | sched | idle | settle | stop =>
    exact Acts.aside ⟨rfl, rfl, rfl, rfl, rfl, rfl, rfl, rfl⟩
  | notices f h => exact Acts.one (.notices s f h)
  | attention l => exact Acts.one (.attention s l)
  | settings f h => exact Acts.one (.settings s f h)
  | take r => exact Acts.one (.take s r)
  | submit p o form tests => exact Acts.one (.submit s p o form tests)
  | fill tag o offset data n found filling => exact Acts.one (.fill s tag o offset data n found filling)
  | commit tag o found filling room => exact Acts.one (.commit s tag o found filling room)
  | retire tag o found parked => exact Acts.one (.retire s tag o found parked)
  | claim m tag => exact Acts.endOrMark m tag s id
  | enable t =>
    rw [State.enterActive_eq]
    exact Acts.aside ⟨rfl, rfl, rfl, rfl, rfl, rfl, rfl, rfl⟩
  | recover t =>
    rw [State.enterActive_eq]
    exact Acts.aside ⟨rfl, rfl, rfl, rfl, rfl, rfl, rfl, rfl⟩
  | disable t => exact Acts.enterDisabled t s
  | engine t f h => exact Acts.one (.engine s t f h.step)
  | start n o burst head offered => exact Acts.one (.start s n o burst head offered)
  | exchangeEnd t n x y e a inFlight same asked => exact Acts.exchangeEnd n e a inFlight same asked
  | faultRunning t => exact Acts.faultRunning t s id
  | faultStopping t => exact Acts.faultStopping t s id

end Sys2Proof.Machine
end

section
/-! PROOFS. The invariants that every step keeps: the posting, the notices, and the agreement of the Order Table. -/

namespace Sys2Proof.Machine

open Sys2Proof

/-- What every chain of acts keeps, a reset's begin and release and the end of the memory check keep, and what does not speak of the
queue of commands, every step keeps. -/
theorem keptByStep_of_acts {inv : State → Prop} (queue : ∀ s l, inv s → inv { s with pending := l })
    (acts : ∀ s t, Acts s.OrdersInv (s.OrdersInv ∧ s.ExchangesInv) s t → inv s → inv t)
    (beginReset : ∀ s k, inv s → inv (s.beginReset k))
    (released : ∀ pending cause unit rate low sense, inv (State.released pending cause unit rate low sense))
    (passed : ∀ s : State, s.startUp.part = .starting → inv s →
      inv (({ s with startUp := { s.startUp with part := .ready } }).withNotices id))
    (failed : ∀ s : State, s.startUp.part = .starting → inv s → inv { s with startUp := { s.startUp with part := .failed } }) :
    KeptByStep inv := by
  refine keptByStep_of_move queue fun s t move hs => ?_
  cases move with
  | service ready h => exact acts _ _ h.acts hs
  | line f h => exact acts s _ (Acts.aside ⟨rfl, rfl, rfl, rfl, rfl, rfl, rfl, rfl⟩) hs
  | lineError => exact acts _ _ (Acts.latch (by decide) (by decide) s) hs
  | sense t good => exact acts s _ (Acts.aside ⟨rfl, rfl, rfl, rfl, rfl, rfl, rfl, rfl⟩) hs
  | beginReset k => exact beginReset s k hs
  | released unit rate low => exact released _ _ _ _ _ _
  | passed h => exact passed s h hs
  | failed h => exact failed s h hs

/-- The same for what every act keeps by itself. -/
theorem keptByStep_of_act {inv : State → Prop} (queue : ∀ s l, inv s → inv { s with pending := l })
    (act : ∀ (K J : Prop) s t, Act K J s t → inv s → inv t) (beginReset : ∀ s k, inv s → inv (s.beginReset k))
    (released : ∀ pending cause unit rate low sense, inv (State.released pending cause unit rate low sense))
    (passed : ∀ s : State, s.startUp.part = .starting → inv s →
      inv (({ s with startUp := { s.startUp with part := .ready } }).withNotices id))
    (failed : ∀ s : State, s.startUp.part = .starting → inv s → inv { s with startUp := { s.startUp with part := .failed } }) :
    KeptByStep inv := by
  refine keptByStep_of_acts queue (fun s t acts hs => ?_) beginReset released passed failed
  induction acts with
  | refl => exact hs
  | tail _ last ih => exact act _ _ _ _ last ih

/-! ## The part at the release of a reset -/

section

variable (pending : List Instr) (cause : ResetKind) (unit rate : BitVec 2) (low : Bool) (sense : Vector Bool 3)

theorem released_postingInv : (State.released pending cause unit rate low sense).postingInv :=
  ⟨Nat.zero_le _, .inl rfl⟩

theorem released_noticesInv : (State.released pending cause unit rate low sense).noticesInv :=
  ⟨rfl, (by decide : (0x0000#16).getLsbD 0 = false), (by decide : (0x0000#16).getLsbD 1 = false),
    (by decide : 0x0000#16 &&& 0xFE00 = 0), (by decide : 0x000F#16 &&& 0xFE00 = 0)⟩

theorem released_memoryInv : (State.released pending cause unit rate low sense).memoryInv :=
  ⟨⟨List.Pairwise.nil, nofun⟩, nofun⟩

theorem released_freeListInv : (State.released pending cause unit rate low sense).freeListInv := by
  show allSegments = allSegments.filter fun g => decide ((Vector.replicate 96 (⟨.free, none, 0⟩ : Segment))[g].owner = .free)
  simp

theorem released_queue (n : NodeId) : (State.released pending cause unit rate low sense).table.queue n = [] := by
  simp [State.released, OrderTable.reset, OrderTable.queue]

theorem released_live : (State.released pending cause unit rate low sense).table.live = [] := by
  simp [State.released, OrderTable.reset, OrderTable.live]

theorem released_exch (t : TrunkId) : (State.released pending cause unit rate low sense).engines[t] = Engine.reset := by
  simp [State.released]

theorem released_queueInv : (State.released pending cause unit rate low sense).queueInv := by
  intro n
  rw [released_queue]
  exact Nat.zero_le _

theorem released_ordersInv : (State.released pending cause unit rate low sense).OrdersInv := by
  constructor
  case tags => rw [released_live]; exact List.nodup_nil
  case queueOnce => intro n; rw [released_queue]; exact List.nodup_nil
  case queueOnly => intro n; rw [released_queue]; exact fun _ h => absurd h List.not_mem_nil
  case queueAll => rw [released_live]; exact fun _ h => absurd h List.not_mem_nil
  case activeHead => rw [released_live]; exact fun _ h => absurd h List.not_mem_nil
  case backlogOnce => exact List.nodup_nil
  case backlogOnly => exact fun _ h => absurd h List.not_mem_nil
  case backlogAll => rw [released_live]; exact fun _ h => absurd h List.not_mem_nil
  case inFlight =>
    intro t x tag hx
    rw [released_exch] at hx
    cases hx

end

/-! ## The posting and the notices -/

/-- Settles O54: posting goes on until the backlog is empty or the queue full, in every event that can add to the one or take from the
other. -/
theorem postingInvariantKept : Obligations.PostingInvariantKept :=
  keptByStep_of_act (fun _ _ h => h) (fun _ _ _ _ => Act.postingInv) (fun _ _ h => h) released_postingInv (fun _ _ h => h)
    fun _ _ h => h

/-- Settles O55: ATTN is taken anew with every change of a flag, and each level with every change of what it stands for. -/
theorem noticesInvariantKept : Obligations.NoticesInvariantKept := by
  refine keptByStep_of_act (fun _ _ h => h) (fun _ _ _ _ => Act.noticesInv) (fun s k h => ?_) released_noticesInv
    (fun s _ h => ?_) fun s starting h => ?_
  · exact ⟨rfl, h.2⟩
  · exact ⟨rfl, h.2⟩
  · refine ⟨h.1.trans ?_, h.2⟩
    rw [starting]
    rfl

/-! ## The segment memory and the free list -/

theorem memoryInvKept : KeptByStep State.memoryInv :=
  keptByStep_of_act (fun _ _ h => h) (fun _ _ _ _ => memory_kept.act) (fun _ _ h => h) released_memoryInv (fun _ _ h => h)
    fun _ _ h => h

theorem freeListInvKept : KeptByStep State.freeListInv :=
  keptByStep_of_act (fun _ _ h => h) (fun _ _ _ _ => freeList_kept.act) (fun _ _ h => h) released_freeListInv (fun _ _ h => h)
    fun _ _ h => h

/-! ## The queues and the agreement of the Order Table -/

theorem queueInvKept : KeptByStep State.queueInv :=
  keptByStep_of_act (fun _ _ h => h) (fun _ _ _ _ => Act.queueInv) (fun _ _ h => h) released_queueInv (fun _ _ h => h)
    fun _ _ h => h

theorem ordersInv_beginReset {s : State} (k : ResetKind) (inv : s.OrdersInv) : (s.beginReset k).OrdersInv := by
  refine ordersInv_of_same inv rfl fun t tag b => ?_
  obtain ⟨x, hx, -⟩ := b
  simp [State.beginReset, Engine.reset] at hx

theorem ordersInvKept : KeptByStep State.OrdersInv :=
  keptByStep_of_acts (fun _ _ h => ordersInv_of_same h rfl (busy_of_engines rfl)) (fun _ _ acts h => Acts.ordersInv acts h h)
    (fun _ k h => ordersInv_beginReset k h) released_ordersInv (fun _ _ h => ordersInv_of_same h rfl (busy_of_engines rfl))
    fun _ _ h => ordersInv_of_same h rfl (busy_of_engines rfl)

/-- Settles O59: the interval is written within its range, a queue grows by orders that pass the queue cap alone, and the table's
agreement is kept by every act on it. -/
theorem intervalAndQueueInvariantsKept : Obligations.IntervalAndQueueInvariantsKept :=
  ⟨intervalInvKept, queueInvKept, ordersInvKept⟩

end Sys2Proof.Machine
end

section
/-! PROOFS. Exchange records, grants and held exchanges belong to their trunk and their node, act by act. -/

namespace Sys2Proof.Machine

open Sys2Proof

variable {K J : Prop}

/-- An order of one table that another table holds too, perhaps changed, in its place. -/
def Order.Continues (o p : Order) : Prop := o.tag = p.tag ∧ o.node = p.node ∧ o.kind = p.kind

/-- What keeps the exchanges in order while the engines stay: every live order continues one or is not in flight, and the order of
every exchange still held goes on ACTIVE. -/
theorem exchangesInv_of {s t : State} (inv : s.ExchangesInv) (orders : t.OrdersInv) (engines : t.engines = s.engines)
    (live : ∀ p ∈ t.table.live, (∃ o ∈ s.table.live, o.Continues p) ∨ ∀ k, ¬ s.busy k p.tag)
    (held : ∀ (n : NodeId) (h : HeldExchange), t.held[n] = some h → s.held[n] = some h ∧
      ∀ o ∈ s.table.live, o.tag = h.tag → o.node = n → o.state = .active →
        ∃ p ∈ t.table.live, o.Continues p ∧ p.state = .active) : t.ExchangesInv := by
  have exch (k : TrunkId) : t.engines[k] = s.engines[k] := by rw [engines]
  constructor
  case ownTrunk => intro k x n hx; rw [exch] at hx; exact inv.ownTrunk k x n hx
  case granted => intro k g n hg; rw [exch] at hg; exact inv.granted k g n hg
  case ofOrder =>
    intro k x p hx hp order
    rw [exch] at hx
    rcases live p hp with ⟨o, ho, tag, node, kind⟩ | free
    · rw [← node, ← kind]
      exact inv.ofOrder k x o hx ho (by rw [tag]; exact order)
    · exact absurd ⟨x, hx, order⟩ (free k)
  case heldHead =>
    intro n h hh
    obtain ⟨before, goes⟩ := held n h hh
    obtain ⟨-, o, ho, tag, node, active, type⟩ := inv.heldHead n h before
    obtain ⟨p, hp, ⟨tag', node', kind'⟩, active'⟩ := goes o ho tag node active
    rw [tag] at tag'
    rw [node] at node'
    rw [kind'] at type
    refine ⟨?_, p, hp, tag'.symm, node'.symm, active', type⟩
    rw [node', tag']
    exact orders.activeHead p hp active'

theorem Order.Continues.refl (o : Order) : o.Continues o := ⟨rfl, rfl, rfl⟩

/-- The exchanges stay in order while table, engines and held exchanges stay. -/
theorem exchangesInv_of_same {s t : State} (inv : s.ExchangesInv) (orders : t.OrdersInv) (table : t.table = s.table)
    (engines : t.engines = s.engines) (held : t.held = s.held) : t.ExchangesInv := by
  refine exchangesInv_of inv orders engines (fun p hp => .inl ⟨p, table ▸ hp, .refl p⟩) fun n h hh => ⟨held ▸ hh, ?_⟩
  exact fun o ho _ _ active => ⟨o, table.symm ▸ ho, .refl o, active⟩

/-- A change of orders in their places, none of which leaves ACTIVE. -/
theorem exchangesInv_update {s t : State} {tag : Byte} {f : Order → Order} (inv : s.ExchangesInv) (orders : t.OrdersInv)
    (table : t.table.live = (s.table.update tag f).live) (engines : t.engines = s.engines)
    (held : ∀ (n : NodeId) (h : HeldExchange), t.held[n] = some h → s.held[n] = some h)
    (keeps : ∀ o, (f o).tag = o.tag ∧ (f o).node = o.node ∧ (f o).kind = o.kind)
    (active : ∀ o ∈ s.table.live, o.tag = tag → o.state = .active → (f o).state = .active) : t.ExchangesInv := by
  have continues (o : Order) : o.Continues (if o.tag = tag then f o else o) := by
    obtain ⟨h1, h2, h3⟩ := keeps o
    split
    · exact ⟨h1.symm, h2.symm, h3.symm⟩
    · exact .refl o
  refine exchangesInv_of inv orders engines (fun p hp => ?_) fun n h hh => ⟨held n h hh, fun o ho _ _ state => ?_⟩
  · rw [table] at hp
    obtain ⟨o, ho, rfl⟩ := OrderTable.mem_update.1 hp
    exact .inl ⟨o, ho, continues o⟩
  · refine ⟨_, by rw [table]; exact OrderTable.mem_update.2 ⟨o, ho, rfl⟩, continues o, ?_⟩
    split
    · exact active o ho ‹_› state
    · exact state

theorem exchangesInv_postHead {s : State} (orders : s.OrdersInv) (inv : s.ExchangesInv) : s.postHead.ExchangesInv := by
  have after := ordersInv_postHead orders
  rcases State.postHead_eq s with same | ⟨c, rest, backlog, -, posted⟩
  · rw [same]
    exact inv
  · rw [posted] at after ⊢
    have ok := (ordersInv_iff s).1 orders
    obtain ⟨e, he, ended, tag, -⟩ := ok.backlogOnly c (by rw [backlog]; exact List.mem_cons_self)
    have other {o : Order} (ho : o ∈ s.table.live) (active : o.state = .active) : o.tag ≠ c.tag := by
      intro same
      rw [ok.eq ho he (same.trans tag), ended] at active
      cases active
    have table : (s.posted c rest).takeCompletionsLevel.table = if c.kind = .bulkFetch ∧ 0 < c.progress then
      OrderTable.update c.tag (fun o => { o with state := .parked }) { s.table with backlog := rest }
      else OrderTable.release c.tag { s.table with backlog := rest } := rfl
    by_cases parks : c.kind = .bulkFetch ∧ 0 < c.progress
    · rw [if_pos parks] at table
      exact exchangesInv_update (s := s) (tag := c.tag) (f := fun o => { o with state := .parked }) inv after (by rw [table]; rfl)
        rfl (fun _ _ h => h) (fun _ => ⟨rfl, rfl, rfl⟩) fun o ho e active => absurd e (other ho active)
    · rw [if_neg parks] at table
      have mem {p : Order} : p ∈ (s.posted c rest).takeCompletionsLevel.table.live ↔ p ∈ s.table.live ∧ p.tag ≠ c.tag := by
        rw [table]
        exact OrderTable.mem_release
      refine exchangesInv_of inv after rfl (fun p hp => .inl ⟨p, (mem.1 hp).1, .refl p⟩) fun n h hh => ⟨hh, ?_⟩
      exact fun o ho _ _ active => ⟨o, mem.2 ⟨ho, other ho active⟩, .refl o, active⟩

theorem exchangesInv_closeOrder {s : State} {o : Order} (orders : s.OrdersInv) (inv : s.ExchangesInv)
    (found : s.table.find o.tag = some o) (open_ : o.state.unended = true) (idle : s.orderInFlight o = false) (r : Result)
    (nak : Byte) : (s.closeOrder o r nak).ExchangesInv := by
  have after := ordersInv_closeOrder orders found open_ idle r nak
  have ok := (ordersInv_iff s).1 orders
  have live := (OrderTable.find_some found).1
  rw [State.closeOrder_eq] at after ⊢
  have mem {p : Order} : p ∈ (s.table.endEntry o r nak s.interval.tick (o.chainAtEnd s.pool)).live ↔
      p = o.ended r nak s.interval.tick (o.chainAtEnd s.pool) ∨ (p ∈ s.table.live ∧ p.tag ≠ o.tag) :=
    OrderTable.mem_update_of ok.tags live
  refine exchangesInv_of inv after rfl (fun p hp => ?_) fun n h hh => ?_
  · rcases mem.1 hp with rfl | ⟨hp, -⟩
    · exact .inl ⟨o, live, rfl, rfl, rfl⟩
    · exact .inl ⟨p, hp, .refl p⟩
  · obtain ⟨before, other⟩ := State.dropHeld_get hh
    refine ⟨before, fun p hp tag node active => ⟨p, mem.2 (.inr ⟨hp, fun e => ?_⟩), .refl p, active⟩⟩
    rw [ok.eq hp live e] at node tag
    exact other node.symm tag.symm

theorem exchangesInv_endOrder {s : State} {tag : Byte} (orders : s.OrdersInv) (inv : s.ExchangesInv)
    (open_ : ∀ o, s.table.find tag = some o → o.state.unended = true ∧ s.orderInFlight o = false) (r : Result) (nak : Byte) :
    (s.endOrder tag r nak).ExchangesInv := by
  refine (endOrder_inv (p := fun s => s.OrdersInv ∧ s.ExchangesInv) (fun s h => ?_) (fun s h => ?_) ⟨orders, inv⟩
    fun o found => ?_).2
  · exact ⟨ordersInv_postHead h.1, exchangesInv_postHead h.1 h.2⟩
  · have latched : (s.latch .backlog).OrdersInv := ordersInv_of_same h.1 rfl (busy_of_engines rfl)
    exact ⟨latched, exchangesInv_of_same h.2 latched rfl rfl rfl⟩
  · obtain ⟨unended, idle⟩ := open_ o found
    obtain rfl := (OrderTable.find_some found).2
    exact ⟨ordersInv_closeOrder orders found unended idle r nak, exchangesInv_closeOrder orders inv found unended idle r nak⟩

theorem exchangesInv_fetchPlaced {s : State} {o : Order} (inv : s.ExchangesInv) (payload : List Byte)
    (after : (fetchPlaced o payload s).OrdersInv) : (fetchPlaced o payload s).ExchangesInv := by
  refine exchangesInv_update (s := s) (tag := o.tag) (f := fun p => { p with progress := o.progress + payload.length }) inv after
    ?_ ?_ ?_ (fun _ => ⟨rfl, rfl, rfl⟩) fun _ _ _ active => active
  all_goals rw [fetchPlaced_eq]
  exact fun _ _ h => h

theorem exchangesInv_engine {s : State} {t : TrunkId} {f : Engine → Engine} (inv : s.ExchangesInv)
    (h : EngineStep s t (f s.engines[t])) : (s.modEngine t f).ExchangesInv := by
  have engine (k : TrunkId) : (s.modEngine t f).engines[k] = if k = t then f s.engines[k] else s.engines[k] := by
    rw [State.modEngine_engines, upd_get]
  have new {x : Exchange} (hx : (f s.engines[t]).exch = some x) : (∃ y, s.engines[t].exch = some y ∧ x.SameAs y) ∨
      (x.order = none ∧ ∀ n, x.node = some n → trunkOf n = t) := by
    rcases h.exch with ⟨y, z, hy, hz, same⟩ | ⟨y, hy, order, node⟩ | none
    · obtain rfl : x = y := Option.some.inj (hx.symm.trans hy)
      exact .inl ⟨z, hz, same⟩
    · obtain rfl : x = y := Option.some.inj (hx.symm.trans hy)
      exact .inr ⟨order, node⟩
    · rw [none] at hx
      cases hx
  constructor
  case ownTrunk =>
    intro k x n hx node
    rw [engine] at hx
    split at hx
    · rename_i own
      subst own
      rcases new hx with ⟨y, hy, same, -⟩ | ⟨-, own⟩
      · exact inv.ownTrunk k y n hy (same ▸ node)
      · exact own n node
    · exact inv.ownTrunk k x n hx node
  case ofOrder =>
    intro k x o hx ho order
    rw [engine] at hx
    split at hx
    · rename_i own
      subst own
      rcases new hx with ⟨y, hy, node, type, same⟩ | ⟨none, -⟩
      · rw [node, type]
        exact inv.ofOrder k y o hy ho (same ▸ order)
      · rw [none] at order
        cases order
    · exact inv.ofOrder k x o hx ho order
  case granted =>
    intro k g n hg node
    rw [engine] at hg
    split at hg
    · rename_i own
      subst own
      rcases h.grant g n hg node with own | ⟨g', hg', node'⟩
      · exact own
      · exact inv.granted k g' n hg' node'
    · exact inv.granted k g n hg node
  case heldHead => exact inv.heldHead

theorem State.orderExchange_type {s : State} {n : NodeId} {o : Order} (inv : s.ExchangesInv) (ok : s.OrdersInv)
    (live : o ∈ s.table.live) : (s.orderExchange n o).type = o.kind.exchangeType := by
  unfold State.orderExchange
  split
  · rename_i h held
    split
    · rename_i same
      obtain ⟨-, p, hp, tag, -, -, type⟩ := inv.heldHead n h held
      rw [eq_of_tag ok.tags hp live (tag.trans same)] at type
      exact type
    · rfl
  · rfl

theorem exchangesInv_start {s : State} {n : NodeId} {o : Order} (orders : s.OrdersInv) (inv : s.ExchangesInv) (burst : Nat)
    (head : s.table.head n = some o) (offered : o.state = .queued ∨ o.state = .active) :
    (s.startOrderExchange n o burst).ExchangesInv := by
  have after := ordersInv_start orders burst head offered
  have ok := (ordersInv_iff s).1 orders
  have live := (OrderTable.find_some (OrderTable.head_some head).2).1
  obtain rfl := ok.head_node head
  rw [State.startOrderExchange_eq] at after ⊢
  have placed : ({ s with held := (s.dropHeld o).held
                          table := s.table.update o.tag fun o => { o with state := .active } } : State).ExchangesInv := by
    refine exchangesInv_update (s := s) (tag := o.tag) (f := fun o => { o with state := .active }) inv ?_ rfl rfl
      (fun n h hh => (State.dropHeld_get hh).1) (fun _ => ⟨rfl, rfl, rfl⟩) fun _ _ _ _ => rfl
    refine (ordersInv_iff _).2 (((ordersInv_iff _).1 orders).activate live offered (OrderTable.head_some head).1
      fun k tag b => .inl b)
  have engine (k : TrunkId) (e : Engine) : (upd s.engines (trunkOf o.node) fun _ => e)[k] =
      if k = trunkOf o.node then e else s.engines[k] := upd_get _ _ _ _
  constructor
  case ownTrunk =>
    intro k x m hx node
    rw [engine] at hx
    split at hx
    · cases hx
      rw [State.orderExchange_node] at node
      cases node
      exact Eq.symm ‹_›
    · exact inv.ownTrunk k x m hx node
  case ofOrder =>
    intro k x p hx hp order
    rw [engine] at hx
    split at hx
    · cases hx
      rw [State.orderExchange_order] at order
      rw [State.orderExchange_node, State.orderExchange_type inv orders live]
      rcases (OrderTable.mem_update_of ok.tags live).1 hp with rfl | ⟨-, other⟩
      · exact ⟨rfl, rfl⟩
      · exact absurd (Option.some.inj order).symm other
    · exact placed.ofOrder k x p hx hp order
  case granted =>
    intro k g m hg node
    rw [engine] at hg
    split at hg
    · cases hg
      cases node
      exact Eq.symm ‹_›
    · exact inv.granted k g m hg node
  case heldHead => exact placed.heldHead

theorem OrderTable.entered_live {t : OrderTable} {tag : Byte} {o : Order} (found : t.find tag = some o) :
    (t.entered tag).live = (t.update tag fun o => { o with state := .queued }).live := by
  rw [OrderTable.entered_eq found, OrderTable.enqueue_live]

/-- The live orders after a submission: the submitted order with its segments, and the others (R6). -/
theorem submitPlaced_mem {s : State} {p : List Byte} {o q : Order} (once : (s.table.live.map Order.tag).Nodup)
    (form : submittedOrder p s.interval.tick = some o) (tests : ∀ c ∈ submitTests o s, c.1 = false) :
    q ∈ (submitPlaced o s).table.live ↔ q = o.withChain s.pool ∨ q ∈ s.table.live := by
  obtain ⟨fresh, free, -, -⟩ := submitTests_passed tests
  obtain ⟨state, -⟩ := submittedOrder_form form
  have mem {q : Order} : q ∈ (s.table.add (o.withChain s.pool)).live ↔ q = o.withChain s.pool ∨ q ∈ s.table.live :=
    OrderTable.mem_add free
  rw [submitPlaced_table]
  split
  · exact mem
  · rename_i other
    rw [if_neg other] at state
    have tags := OrderTable.tags_add (p := o.withChain s.pool) free once fresh
    have found : (s.table.add (o.withChain s.pool)).find o.tag = some (o.withChain s.pool) :=
      OrderTable.find_add (p := o.withChain s.pool) free fresh
    have queued : { o.withChain s.pool with state := .queued } = o.withChain s.pool := by
      unfold Order.withChain
      rw [← state]
    have mem' := OrderTable.mem_update_of tags (mem.2 (.inl rfl)) (f := fun o => { o with state := .queued }) (o := q)
    rw [queued, mem] at mem'
    rw [OrderTable.entered_live found]
    refine mem'.trans ⟨fun h => h.elim .inl And.left, fun h => h.elim .inl fun old => .inr ⟨.inr old, ?_⟩⟩
    exact OrderTable.find_none.1 fresh q old

theorem exchangesInv_submit {s : State} {p : List Byte} {o : Order} (orders : s.OrdersInv) (inv : s.ExchangesInv)
    (form : submittedOrder p s.interval.tick = some o) (tests : ∀ c ∈ submitTests o s, c.1 = false) :
    (submitPlaced o s).ExchangesInv := by
  have after := ordersInv_submit orders form tests
  obtain ⟨fresh, -⟩ := submitTests_passed tests
  have ok := (ordersInv_iff s).1 orders
  have idle (k : TrunkId) : ¬ s.busy k o.tag := by
    intro b
    obtain ⟨q, hq, tag, -⟩ := ok.inFlight k _ b
    exact OrderTable.find_none.1 fresh q hq tag
  have mem {q : Order} : q ∈ (submitPlaced o s).table.live ↔ q = o.withChain s.pool ∨ q ∈ s.table.live :=
    submitPlaced_mem orders.tags form tests
  refine exchangesInv_of inv after (by rw [submitPlaced_eq]) (fun q hq => ?_) fun n h hh => ⟨?_, fun q hq _ _ active => ?_⟩
  · rcases mem.1 hq with rfl | hq
    · exact .inr idle
    · exact .inl ⟨q, hq, .refl q⟩
  · rwa [submitPlaced_eq] at hh
  · exact ⟨q, mem.2 (.inr hq), .refl q, active⟩

/-- Every act keeps exchanges, grants and held exchanges in order, together with the agreement of the Order Table. -/
theorem Act.exchangesInv {s t : State} (h : Act K J s t) (k : K) (j : J) (orders : s.OrdersInv) (inv : s.ExchangesInv) :
    t.ExchangesInv := by
  have after := h.ordersInv k orders
  have same (table : t.table = s.table) (engines : t.engines = s.engines) (held : t.held = s.held) : t.ExchangesInv :=
    exchangesInv_of_same inv after table engines held
  cases h with
  | aside h => exact same h.table h.engines h.held
  | notices | attention | settings => exact same rfl rfl rfl
  | take r =>
    have start : (s.modCompletions fun q =>
        ({ q with records := q.records.drop r }).testHead s.interval.tick).OrdersInv :=
      ordersInv_of_same orders rfl (busy_of_engines rfl)
    have posted := post_inv (p := fun s => s.OrdersInv ∧ s.ExchangesInv)
      (fun s h => ⟨ordersInv_postHead h.1, exchangesInv_postHead h.1 h.2⟩) s.table.backlog.length
      ⟨start, exchangesInv_of_same inv start rfl rfl rfl⟩
    exact exchangesInv_of_same posted.2 after rfl rfl rfl
  | endOrder tag r nak open_ => exact exchangesInv_endOrder orders inv (open_ k) r nak
  | update tag f keeps open_ =>
    refine exchangesInv_update (s := s) (tag := tag) (f := f) inv after rfl rfl (fun _ _ h => h)
      (fun o => ?_) fun o _ _ active => ?_
    · rw [keeps o]
      exact ⟨rfl, rfl, rfl⟩
    · rw [keeps o]
      exact active
  | sent o g rest n found chain kind active =>
    exact exchangesInv_update (s := s) (tag := o.tag) (f := fun p => { p with progress := n, chain := rest }) inv after rfl rfl
      (fun _ _ h => h) (fun _ => ⟨rfl, rfl, rfl⟩) fun _ _ _ active => active
  | landed o payload found kind active => exact exchangesInv_fetchPlaced inv payload after
  | landedLast o payload found kind active =>
    obtain ⟨active, idle⟩ := active k
    have placed := ordersInv_fetchPlaced orders payload found active
    refine exchangesInv_endOrder placed (exchangesInv_fetchPlaced inv payload placed) (fun p hp => ?_) _ _
    rw [fetchPlaced_find found hp, fetchPlaced_orderInFlight]
    exact ⟨by rw [show ({ o with progress := o.progress + payload.length } : Order).state = o.state from rfl, active]; rfl, idle⟩
  | drop n =>
    refine exchangesInv_of inv after rfl (fun p hp => .inl ⟨p, hp, .refl p⟩) fun m h hh => ⟨?_, fun o ho _ _ active =>
      ⟨o, ho, .refl o, active⟩⟩
    rw [State.setHeld_held, upd_get] at hh
    split at hh
    · cases hh
    · exact hh
  | hold n h active type =>
    obtain ⟨o, found, own, state⟩ := active k
    obtain ⟨live, tag⟩ := OrderTable.find_some found
    refine ⟨inv.ownTrunk, inv.ofOrder, inv.granted, fun m g hg => ?_⟩
    rw [State.setHeld_held, upd_get] at hg
    split at hg
    · rename_i here
      cases hg
      subst here own
      refine ⟨?_, o, live, tag, rfl, state, type j o found⟩
      rw [← tag]
      exact orders.activeHead o live state
    · exact inv.heldHead m g hg
  | engine t f h => exact exchangesInv_engine inv h
  | start n o burst head offered => exact exchangesInv_start orders inv burst head offered
  | submit p o form tests => exact exchangesInv_submit orders inv form tests
  | fill tag o offset data n =>
    exact exchangesInv_update (s := s) (tag := tag) (f := fun o => { o with fill := o.fill + n }) inv after rfl rfl
      (fun _ _ h => h) (fun _ => ⟨rfl, rfl, rfl⟩) fun _ _ _ active => active
  | commit tag o found filling =>
    obtain ⟨live, rfl⟩ := OrderTable.find_some found
    refine exchangesInv_update (s := s) (tag := o.tag) (f := fun o => { o with state := .queued }) inv after ?_ ?_ ?_
      (fun _ => ⟨rfl, rfl, rfl⟩) fun p hp e active => ?_
    · rw [commitPlaced_table, OrderTable.entered_live found]
    · rw [commitPlaced_eq]
    · rw [commitPlaced_eq]
      exact fun _ _ h => h
    · rw [eq_of_tag orders.tags hp live e, filling] at active
      cases active
  | retire tag o found parked =>
    obtain ⟨live, -⟩ := OrderTable.find_some found
    refine exchangesInv_of inv after rfl (fun p hp => .inl ⟨p, (OrderTable.mem_release.1 hp).1, .refl p⟩) fun n h hh => ⟨hh, ?_⟩
    refine fun p hp _ _ active => ⟨p, OrderTable.mem_release.2 ⟨hp, fun e => ?_⟩, .refl p, active⟩
    rw [eq_of_tag orders.tags hp live e, parked] at active
    cases active

theorem Acts.exchangesInv {s t : State} (h : Acts K J s t) (k : K) (j : J) (orders : s.OrdersInv) (inv : s.ExchangesInv) :
    t.ExchangesInv := by
  induction h with
  | refl => exact inv
  | tail chain last ih => exact last.exchangesInv k j (Acts.ordersInv chain k orders) ih

theorem released_exchangesInv (pending : List Instr) (cause : ResetKind) (unit rate : BitVec 2) (low : Bool)
    (sense : Vector Bool 3) : (State.released pending cause unit rate low sense).ExchangesInv := by
  constructor
  case ownTrunk => intro t x n hx; rw [released_exch] at hx; cases hx
  case ofOrder => intro t x o hx; rw [released_exch] at hx; cases hx
  case granted => intro t g n hg; rw [released_exch] at hg; cases hg
  case heldHead => intro n h hh; simp [State.released] at hh

theorem exchangesInv_beginReset {s : State} (k : ResetKind) (inv : s.ExchangesInv) : (s.beginReset k).ExchangesInv := by
  have engine (t : TrunkId) : (s.beginReset k).engines[t] = Engine.reset := by simp [State.beginReset]
  constructor
  case ownTrunk => intro t x n hx; rw [engine] at hx; cases hx
  case ofOrder => intro t x o hx; rw [engine] at hx; cases hx
  case granted => intro t g n hg; rw [engine] at hg; cases hg
  case heldHead => exact inv.heldHead

theorem exchangesInvKept : KeptByStep fun s => s.OrdersInv ∧ s.ExchangesInv := by
  have same {s t : State} (h : s.OrdersInv ∧ s.ExchangesInv) (table : t.table = s.table) (engines : t.engines = s.engines)
      (held : t.held = s.held) : t.OrdersInv ∧ t.ExchangesInv := by
    have orders := ordersInv_of_same h.1 table (busy_of_engines engines)
    exact ⟨orders, exchangesInv_of_same h.2 orders table engines held⟩
  exact keptByStep_of_acts (fun _ _ h => same h rfl rfl rfl)
    (fun _ _ acts h => ⟨Acts.ordersInv acts h.1 h.1, Acts.exchangesInv acts h.1 h h.1 h.2⟩)
    (fun _ k h => ⟨ordersInv_beginReset k h.1, exchangesInv_beginReset k h.2⟩)
    (fun _ _ _ _ _ _ => ⟨released_ordersInv _ _ _ _ _ _, released_exchangesInv _ _ _ _ _ _⟩)
    (fun _ _ h => same h rfl rfl rfl) fun _ _ h => same h rfl rfl rfl

/-- Settles O57: the state of a trunk decides its blocks one by one, and an exchange, a grant and a held exchange stay with the node
they began with. -/
theorem trunkInvariantKept : Obligations.TrunkInvariantKept := ⟨trunkInvKept, exchangesInvKept⟩

end Sys2Proof.Machine
end

section
/-! PROOFS. Every segment is FREE or in the chain of one live order, on the side that the order's state gives it: the segments after
each operation, and the invariant act by act. -/

namespace Sys2Proof.Machine

open Sys2Proof

variable {K J : Prop}

/-! ## The segments after an operation -/

/-- A FREE segment (R29). -/
abbrev Segment.isFree (r : Segment) : Prop := r = ⟨.free, none, 0⟩

/-- An operation on one segment after another, each at its own place, that does no more when it is done again. -/
theorem foldl_seg {f : SegmentPool → SegId → SegmentPool} {F : Segment → Segment}
    (hf : ∀ (p : SegmentPool) (g h : SegId), (f p g).seg h = if h = g then F (p.seg g) else p.seg h)
    (again : ∀ r, F (F r) = F r) (l : List SegId) (p : SegmentPool) (h : SegId) :
    (l.foldl f p).seg h = if h ∈ l then F (p.seg h) else p.seg h := by
  induction l generalizing p with
  | nil => rfl
  | cons g l ih =>
    rw [List.foldl_cons, ih, hf]
    by_cases e : h = g
    · subst e
      rw [if_pos rfl, again, ite_self, if_pos List.mem_cons_self]
    · simp [e]

theorem SegmentPool.freeAll_seg (l : List SegId) (p : SegmentPool) (h : SegId) :
    (p.freeAll l).seg h = if h ∈ l then ⟨.free, none, 0⟩ else p.seg h :=
  foldl_seg (F := fun _ => ⟨.free, none, 0⟩) (fun p g h => ((p.freeSegment_segs g).1 h).1) (fun _ => rfl) l p h

/-- A segment committed to the trunk side (R38). -/
def Segment.committed (r : Segment) : Segment := if r.owner = .free then r else { r with owner := .trunkSide }

theorem Segment.committed_committed (r : Segment) : r.committed.committed = r.committed := by
  unfold Segment.committed
  by_cases free : r.owner = .free
  · rw [if_pos free, if_pos free]
  · rw [if_neg free, if_neg (show (.trunkSide : Owner) ≠ .free by decide)]

theorem commit_seg (l : List SegId) (p : SegmentPool) (h : SegId) :
    (l.foldl (fun p g => p.setOwner .trunkSide g) p).seg h = if h ∈ l then (p.seg h).committed else p.seg h := by
  refine foldl_seg (fun p g h => ?_) Segment.committed_committed l p h
  rw [SegmentPool.setOwner_seg]
  by_cases e : h = g
  · subst e
    unfold Segment.committed
    by_cases free : (p.seg h).owner = .free
    · rw [if_neg fun c => c.2 free, if_pos rfl, if_pos free]
    · rw [if_pos ⟨rfl, free⟩, if_pos rfl, if_neg free]
  · rw [if_neg fun c => e c.1, if_neg e]

/-- A segment of a BULK_FETCH at the end of its order (R43). -/
def Segment.closed (r : Segment) : Segment :=
  if r.owner = .trunkSide then (if r.fill = 0 then ⟨.free, none, 0⟩ else { r with owner := .hostSide }) else r

theorem Segment.closed_closed (r : Segment) : r.closed.closed = r.closed := by
  unfold Segment.closed
  by_cases trunk : r.owner = .trunkSide
  · rw [if_pos trunk]
    by_cases empty : r.fill = 0
    · rw [if_pos empty]
      rfl
    · rw [if_neg empty]
      rfl
  · rw [if_neg trunk, if_neg trunk]

theorem close_seg (l : List SegId) (p : SegmentPool) (h : SegId) :
    (l.foldl (fun p g => p.closeFetchSegment g) p).seg h = if h ∈ l then (p.seg h).closed else p.seg h := by
  refine foldl_seg (fun p g h => ?_) Segment.closed_closed l p h
  unfold SegmentPool.closeFetchSegment Segment.closed
  by_cases trunk : (p.seg g).owner = .trunkSide
  · simp only [if_pos trunk]
    by_cases empty : (p.seg g).fill = 0
    · simp only [if_pos empty]
      exact ((p.freeSegment_segs g).1 h).1
    · simp only [if_neg empty]
      rw [SegmentPool.setOwner_seg]
      by_cases e : h = g
      · rw [if_pos ⟨e, by rw [trunk]; decide⟩, if_pos e]
      · rw [if_neg fun c => e c.1, if_neg e]
  · simp only [if_neg trunk]
    split
    · rename_i e
      rw [e]
    · rfl

/-- Writing data leaves owners and tags, and every segment outside the chain. -/
theorem SegmentPool.writeData_tags (side : Owner) (tag : Byte) (chain : List SegId) (offset : Nat) (data : List Byte)
    (p : SegmentPool) (h : SegId) : ((p.writeData side tag chain offset data).seg h).owner = (p.seg h).owner ∧
      ((p.writeData side tag chain offset data).seg h).tag = (p.seg h).tag ∧
      (h ∉ chain → (p.writeData side tag chain offset data).seg h = p.seg h) := by
  have byte (g : SegId) (pos : Nat) (v : Byte) (q : SegmentPool) : ((q.writeByte side tag g pos v).seg h).owner = (q.seg h).owner ∧
      ((q.writeByte side tag g pos v).seg h).tag = (q.seg h).tag ∧ (h ≠ g → (q.writeByte side tag g pos v).seg h = q.seg h) := by
    unfold SegmentPool.writeByte
    split
    · show ((upd q.segs g fun r => { r with fill := r.fill + 1 })[h]).owner = _ ∧
        ((upd q.segs g fun r => { r with fill := r.fill + 1 })[h]).tag = _ ∧
        (h ≠ g → (upd q.segs g fun r => { r with fill := r.fill + 1 })[h] = _)
      rw [upd_get]
      split
      · exact ⟨rfl, rfl, fun other => absurd ‹_› other⟩
      · exact ⟨rfl, rfl, fun _ => rfl⟩
    · exact ⟨rfl, rfl, fun _ => rfl⟩
  induction data generalizing offset p with
  | nil => exact ⟨rfl, rfl, fun _ => rfl⟩
  | cons v data ih =>
    unfold SegmentPool.writeData
    dsimp only
    split
    · rename_i g at_
      obtain ⟨owner, mark, out⟩ := ih (offset + 1) (p.writeByte side tag g (offset % Config.segmentBytes) v)
      obtain ⟨owner', mark', out'⟩ := byte g (offset % Config.segmentBytes) v p
      refine ⟨owner.trans owner', mark.trans mark', fun absent => (out absent).trans (out' fun e => ?_)⟩
      exact absent (e ▸ List.mem_of_getElem? at_)
    · exact ih (offset + 1) p

/-- Writing data within one segment raises its fill count by the bytes written (R36). -/
theorem SegmentPool.writeData_fill {side : Owner} {tag : Byte} {chain : List SegId} {g : SegId} {q : Nat}
    (at_ : chain[q]? = some g) (data : List Byte) (b f : Nat) (p : SegmentPool) (room : b + data.length ≤ 256)
    (seg : p.seg g = ⟨side, some tag, f⟩) (h : SegId) :
    (p.writeData side tag chain (256 * q + b) data).seg h = if h = g then ⟨side, some tag, f + data.length⟩ else p.seg h := by
  induction data generalizing b f p with
  | nil =>
    show p.seg h = _
    split
    · rename_i e
      rw [e, seg]
      rfl
    · rfl
  | cons v data ih =>
    simp only [List.length_cons] at room ⊢
    have place : chain[(256 * q + b) / Config.segmentBytes]? = some g := by
      rw [show (256 * q + b) / Config.segmentBytes = q by unfold Config.segmentBytes; omega, at_]
    have reached : p.reaches side tag g = true := by
      unfold SegmentPool.reaches
      rw [seg]
      simp
    have raised (pos : Nat) (h : SegId) : (p.writeByte side tag g pos v).seg h = if h = g then ⟨side, some tag, f + 1⟩ else p.seg h := by
      unfold SegmentPool.writeByte
      rw [if_pos reached]
      show (upd p.segs g fun r => { r with fill := r.fill + 1 })[h] = _
      rw [upd_get]
      split
      · rename_i e
        subst e
        have same : p.segs[h] = ⟨side, some tag, f⟩ := seg
        rw [same]
      · rfl
    unfold SegmentPool.writeData
    simp only [place]
    rw [show 256 * q + b + 1 = 256 * q + (b + 1) by omega, ih (b + 1) (f + 1) _ (by omega) ((raised _ g).trans (if_pos rfl)), raised]
    split
    · rw [show f + 1 + data.length = f + (data.length + 1) by omega]
    · rfl

/-! ## The chains of the live orders -/

/-- The chain of an order holds no segment twice, and its segments are taken and carry its tag (R29). -/
def Order.Carries (seg : SegId → Segment) (o : Order) : Prop :=
  o.chain.Nodup ∧ ∀ g ∈ o.chain, (seg g).owner ≠ .free ∧ (seg g).tag = some o.tag

/-- The segments of an order are on the side that its state gives them (R31 to R33, R38, R41 to R43). -/
structure Order.Sided (seg : SegId → Segment) (o : Order) : Prop where
  filling : o.state = .filling →
    o.kind = .bulkSend ∧ o.chain.length = (o.length + 255) / 256 ∧ ∀ g ∈ o.chain, (seg g).owner = .hostSide
  sending : o.kind = .bulkSend → o.state.inQueue → ∀ g ∈ o.chain, (seg g).owner = .trunkSide
  landing : o.kind = .bulkFetch → o.state.inQueue →
    o.chain.length = (o.length + 255) / 256 ∧ o.progress % 256 = 0 ∧ o.progress < o.length ∧
    ∀ (i : Nat) (g : SegId), o.chain[i]? = some g →
      seg g = if i < o.progress / 256 then ⟨.hostSide, some o.tag, 256⟩ else ⟨.trunkSide, some o.tag, 0⟩
  fetched : o.kind = .bulkFetch → o.state = .ended ∨ o.state = .parked → ∀ g ∈ o.chain, (seg g).owner = .hostSide
  parked : o.state = .parked → o.kind = .bulkFetch

/-- The agreement of the live orders with the segments, the orders of `Q` free of the sides for a moment. -/
structure ChainsAgree (Q : Order → Prop) (live : List Order) (seg : SegId → Segment) : Prop where
  carries : ∀ o ∈ live, o.Carries seg
  sided : ∀ o ∈ live, ¬ Q o → o.Sided seg
  apart : ∀ o ∈ live, ∀ p ∈ live, ∀ g : SegId, g ∈ o.chain → g ∈ p.chain → o.tag = p.tag
  held : ∀ g : SegId, (seg g).owner ≠ .free → ∃ o ∈ live, g ∈ o.chain
  free : ∀ g : SegId, (seg g).owner = .free → (seg g).isFree

/-- No order is free of the sides. -/
abbrev NoOrder : Order → Prop := fun _ => False

theorem chainsInv_iff (s : State) : s.ChainsInv ↔ ChainsAgree NoOrder s.table.live s.pool.seg :=
  ⟨fun h => ⟨fun o ho => ⟨h.once o ho, h.carried o ho⟩,
      fun o ho _ => ⟨h.filling o ho, h.sending o ho, h.landing o ho, h.fetched o ho, h.parked o ho⟩, h.apart, h.held, h.free⟩,
    fun h => ⟨fun o ho => (h.carries o ho).1, fun o ho => (h.carries o ho).2, h.apart, h.held, h.free,
      fun o ho => (h.sided o ho id).1, fun o ho => (h.sided o ho id).2, fun o ho => (h.sided o ho id).3,
      fun o ho => (h.sided o ho id).4, fun o ho => (h.sided o ho id).5⟩⟩

theorem Order.Carries.congr {seg seg' : SegId → Segment} {o : Order} (h : o.Carries seg)
    (same : ∀ g ∈ o.chain, seg' g = seg g) : o.Carries seg' :=
  ⟨h.1, fun g hg => by rw [same g hg]; exact h.2 g hg⟩

theorem Order.Sided.congr {seg seg' : SegId → Segment} {o : Order} (h : o.Sided seg) (same : ∀ g ∈ o.chain, seg' g = seg g) :
    o.Sided seg' where
  filling state := by
    obtain ⟨kind, length, owner⟩ := h.filling state
    exact ⟨kind, length, fun g hg => by rw [same g hg]; exact owner g hg⟩
  sending kind state g hg := by rw [same g hg]; exact h.sending kind state g hg
  landing kind state := by
    obtain ⟨length, block, short, segs⟩ := h.landing kind state
    exact ⟨length, block, short, fun i g at_ => by rw [same g (List.mem_of_getElem? at_)]; exact segs i g at_⟩
  fetched kind state g hg := by rw [same g hg]; exact h.fetched kind state g hg
  parked := h.parked

namespace ChainsAgree

variable {Q Q' : Order → Prop} {live live' : List Order} {seg seg' : SegId → Segment} (ok : ChainsAgree Q live seg)
  (once : (live.map Order.tag).Nodup)

include ok once

/-- One order is replaced by one of the same tag, or by none, whose chain is part of its chain; its other segments are freed. -/
theorem replace {o : Order} (ho : o ∈ live) (o' : Option Order) (tag : ∀ p ∈ o', p.tag = o.tag)
    (part : ∀ p ∈ o', ∀ g ∈ p.chain, g ∈ o.chain) (mem : ∀ {q : Order}, q ∈ live' ↔ q ∈ o' ∨ (q ∈ live ∧ q.tag ≠ o.tag))
    (outside : ∀ g, g ∉ o.chain → seg' g = seg g) (carries : ∀ p ∈ o', p.Carries seg')
    (sided : ∀ p ∈ o', ¬ Q' p → p.Sided seg') (exempt : ∀ q ∈ live, q.tag ≠ o.tag → ¬ Q' q → ¬ Q q)
    (dropped : ∀ g ∈ o.chain, (∀ p ∈ o', g ∉ p.chain) → (seg' g).isFree) : ChainsAgree Q' live' seg' := by
  have other {q : Order} (hq : q ∈ live) (ne : q.tag ≠ o.tag) {g : SegId} (hg : g ∈ q.chain) : g ∉ o.chain :=
    fun h => ne (ok.apart q hq o ho g hg h)
  constructor
  case carries =>
    intro q hq
    rcases mem.1 hq with new | ⟨hq, ne⟩
    · exact carries q new
    · exact (ok.carries q hq).congr fun g hg => outside g (other hq ne hg)
  case sided =>
    intro q hq held
    rcases mem.1 hq with new | ⟨hq, ne⟩
    · exact sided q new held
    · exact (ok.sided q hq (exempt q hq ne held)).congr fun g hg => outside g (other hq ne hg)
  case apart =>
    intro q hq r hr g hg hg'
    rcases mem.1 hq with new | ⟨hq, ne⟩
    · rcases mem.1 hr with new' | ⟨hr, ne'⟩
      · rw [tag q new, tag r new']
      · exact absurd (part q new g hg) (other hr ne' hg')
    · rcases mem.1 hr with new' | ⟨hr, ne'⟩
      · exact absurd (part r new' g hg') (other hq ne hg)
      · exact ok.apart q hq r hr g hg hg'
  case held =>
    intro g taken
    by_cases mine : g ∈ o.chain
    · by_contra none
      have free := dropped g mine fun p hp hg => none ⟨p, mem.2 (.inl hp), hg⟩
      rw [free] at taken
      exact taken rfl
    · rw [outside g mine] at taken
      obtain ⟨q, hq, hg⟩ := ok.held g taken
      refine ⟨q, mem.2 (.inr ⟨hq, fun e => mine ?_⟩), hg⟩
      rw [← eq_of_tag once hq ho e]
      exact hg
  case free =>
    intro g free
    by_cases mine : g ∈ o.chain
    · exact dropped g mine fun p hp hg => (carries p hp).2 g hg |>.1 free
    · rw [outside g mine] at free ⊢
      exact ok.free g free

/-- One order leaves the table, and its chain is freed. -/
theorem remove {o : Order} (ho : o ∈ live) (mem : ∀ {q : Order}, q ∈ live' ↔ q ∈ live ∧ q.tag ≠ o.tag)
    (outside : ∀ g, g ∉ o.chain → seg' g = seg g) (freed : ∀ g ∈ o.chain, (seg' g).isFree) : ChainsAgree Q live' seg' := by
  have no {p : Order} (h : p ∈ (none : Option Order)) : False := Option.not_mem_none p h
  refine ok.replace once ho none (fun _ h => (no h).elim) (fun _ h => (no h).elim) (fun {q} => ?_) outside
    (fun _ h => (no h).elim) (fun _ h => (no h).elim) (fun _ _ _ h => h) fun g mine _ => freed g mine
  exact mem.trans ⟨.inr, fun h => h.elim (fun h => (no h).elim) id⟩

omit once in
/-- An order is added, whose chain was FREE. -/
theorem insert {w : Order} (mem : ∀ {q : Order}, q ∈ live' ↔ q = w ∨ q ∈ live) (wasFree : ∀ g ∈ w.chain, (seg g).owner = .free)
    (outside : ∀ g, g ∉ w.chain → seg' g = seg g) (carries : w.Carries seg') (sided : w.Sided seg') : ChainsAgree Q live' seg' := by
  have other {q : Order} (hq : q ∈ live) {g : SegId} (hg : g ∈ q.chain) : g ∉ w.chain :=
    fun h => ((ok.carries q hq).2 g hg).1 (wasFree g h)
  constructor
  case carries =>
    intro q hq
    rcases mem.1 hq with rfl | hq
    · exact carries
    · exact (ok.carries q hq).congr fun g hg => outside g (other hq hg)
  case sided =>
    intro q hq held
    rcases mem.1 hq with rfl | hq
    · exact sided
    · exact (ok.sided q hq held).congr fun g hg => outside g (other hq hg)
  case apart =>
    intro q hq r hr g hg hg'
    rcases mem.1 hq with rfl | hq
    · rcases mem.1 hr with rfl | hr
      · rfl
      · exact absurd hg (other hr hg')
    · rcases mem.1 hr with rfl | hr
      · exact absurd hg' (other hq hg)
      · exact ok.apart q hq r hr g hg hg'
  case held =>
    intro g taken
    by_cases mine : g ∈ w.chain
    · exact ⟨w, mem.2 (.inl rfl), mine⟩
    · rw [outside g mine] at taken
      obtain ⟨q, hq, hg⟩ := ok.held g taken
      exact ⟨q, mem.2 (.inr hq), hg⟩
  case free =>
    intro g free
    by_cases mine : g ∈ w.chain
    · exact absurd free (carries.2 g mine).1
    · rw [outside g mine] at free ⊢
      exact ok.free g free

/-- One order is changed, and its chain and every segment stay. -/
theorem change {o o' : Order} (ho : o ∈ live) (tag : o'.tag = o.tag) (chain : o'.chain = o.chain)
    (mem : ∀ {q : Order}, q ∈ live' ↔ q = o' ∨ (q ∈ live ∧ q.tag ≠ o.tag)) (sided : ¬ Q' o' → o'.Sided seg)
    (exempt : ∀ q ∈ live, q.tag ≠ o.tag → ¬ Q' q → ¬ Q q) : ChainsAgree Q' live' seg := by
  refine ok.replace once ho (some o') (by rintro _ ⟨⟩; exact tag) (by rintro _ ⟨⟩ g hg; exact chain ▸ hg)
    (fun {q} => mem.trans (or_congr_left ⟨fun e => congrArg some e.symm, fun e => (Option.some.inj e).symm⟩)) (fun _ _ => rfl) ?_
    (by rintro _ ⟨⟩; exact sided) exempt fun g hg none => absurd (chain ▸ hg) (none o' rfl)
  rintro _ ⟨⟩
  unfold Order.Carries
  rw [chain, tag]
  exact ok.carries o ho

end ChainsAgree

end Sys2Proof.Machine
end

section
/-! PROOFS. Every act keeps the segments of the live orders in order. -/

namespace Sys2Proof.Machine

open Sys2Proof

variable {K J : Prop}

/-- No change of an order nobody holds. -/
theorem OrderTable.live_update_of_none {t : OrderTable} {tag : Byte} (f : Order → Order) (none : t.find tag = none) :
    (t.update tag f).live = t.live := by
  rw [OrderTable.live_update]
  exact (List.map_congr_left (g := id) fun o ho => if_neg (OrderTable.find_none.1 none o ho)).trans (List.map_id _)

/-! ## The end of an order -/

theorem Order.ended_sided {o : Order} {seg : SegId → Segment} {r : Result} {nak : Byte} {now : Word} {chain : List SegId}
    (host : o.kind = .bulkFetch → ∀ g ∈ chain, (seg g).owner = .hostSide) : (o.ended r nak now chain).Sided seg where
  filling state := by cases state
  sending _ state := by rcases state with state | state <;> cases state
  landing _ state := by rcases state with state | state <;> cases state
  fetched kind _ := host kind
  parked state := by cases state

/-- The close of an order, whose own segments need not be on their sides. -/
theorem chainsInv_closeOrder {s : State} {o : Order} {Q : Order → Prop} (once : (s.table.live.map Order.tag).Nodup)
    (ok : ChainsAgree Q s.table.live s.pool.seg) (alone : ∀ q, q.tag ≠ o.tag → ¬ Q q) (found : s.table.find o.tag = some o)
    (r : Result) (nak : Byte) : (s.closeOrder o r nak).ChainsInv := by
  have live := (OrderTable.find_some found).1
  have mem {p : Order} : p ∈ (s.table.endEntry o r nak s.interval.tick (o.chainAtEnd s.pool)).live ↔
      p = o.ended r nak s.interval.tick (o.chainAtEnd s.pool) ∨ (p ∈ s.table.live ∧ p.tag ≠ o.tag) :=
    OrderTable.mem_update_of once live
  obtain ⟨nodup, carried⟩ := ok.carries o live
  rw [State.closeOrder_eq, chainsInv_iff]
  show ChainsAgree NoOrder (s.table.endEntry o r nak s.interval.tick (o.chainAtEnd s.pool)).live (o.closeSegments s.pool).seg
  by_cases fetch : o.kind = .bulkFetch
  · have closed (h : SegId) : (o.closeSegments s.pool).seg h = if h ∈ o.chain then (s.pool.seg h).closed else s.pool.seg h := by
      unfold Order.closeSegments
      rw [if_pos fetch]
      exact close_seg _ s.pool h
    have kept (g : SegId) : g ∈ o.chainAtEnd s.pool ↔
        g ∈ o.chain ∧ ¬ ((s.pool.seg g).owner = .trunkSide ∧ (s.pool.seg g).fill = 0) := by
      unfold Order.chainAtEnd
      rw [if_pos fetch]
      simp [SegmentPool.keptByFetch, imp_iff_not_or]
    have host {g : SegId} (hg : g ∈ o.chainAtEnd s.pool) : ((s.pool.seg g).closed).owner = .hostSide ∧
        ((s.pool.seg g).closed).tag = some o.tag := by
      obtain ⟨mine, stays⟩ := (kept g).1 hg
      obtain ⟨taken, tag⟩ := carried g mine
      unfold Segment.closed
      by_cases trunk : (s.pool.seg g).owner = .trunkSide
      · rw [if_pos trunk, if_neg fun empty => stays ⟨trunk, empty⟩]
        exact ⟨rfl, tag⟩
      · rw [if_neg trunk]
        refine ⟨?_, tag⟩
        cases owner : (s.pool.seg g).owner with
        | free => exact absurd owner taken
        | hostSide => rfl
        | trunkSide => exact absurd owner trunk
    refine ok.replace once live (some (o.ended r nak s.interval.tick (o.chainAtEnd s.pool))) (by rintro _ ⟨⟩; rfl)
      (by rintro _ ⟨⟩ g hg; exact ((kept g).1 hg).1)
      (fun {q} => mem.trans (or_congr_left ⟨fun e => congrArg some e.symm, fun e => (Option.some.inj e).symm⟩))
      (fun g out => (closed g).trans (if_neg out)) ?_ ?_ (fun q _ ne _ => alone q ne) ?_
    · rintro _ ⟨⟩
      refine ⟨?_, fun g hg => ?_⟩
      · show (o.chainAtEnd s.pool).Nodup
        unfold Order.chainAtEnd
        rw [if_pos fetch]
        exact nodup.filter _
      · obtain ⟨owner, tag⟩ := host hg
        rw [closed, if_pos ((kept g).1 hg).1, owner, tag]
        exact ⟨by decide, rfl⟩
    · rintro _ ⟨⟩ -
      refine Order.ended_sided fun _ g hg => ?_
      rw [closed, if_pos ((kept g).1 hg).1]
      exact (host hg).1
    · intro g mine gone
      have empty : (s.pool.seg g).owner = .trunkSide ∧ (s.pool.seg g).fill = 0 := by
        by_contra stays
        exact gone _ rfl ((kept g).2 ⟨mine, stays⟩)
      rw [closed, if_pos mine]
      unfold Segment.closed
      rw [if_pos empty.1, if_pos empty.2]
  · have same : o.closeSegments s.pool = s.pool := by
      unfold Order.closeSegments
      rw [if_neg fetch]
    have chain : o.chainAtEnd s.pool = o.chain := by
      unfold Order.chainAtEnd
      rw [if_neg fetch]
    rw [chain] at mem
    rw [same, chain]
    exact ok.change once live (o' := o.ended r nak s.interval.tick o.chain) rfl rfl mem
      (fun _ => Order.ended_sided fun kind => absurd kind fetch) fun q _ ne _ => alone q ne

theorem chainsInv_postHead {s : State} (orders : s.OrdersInv) (inv : s.ChainsInv) : s.postHead.ChainsInv := by
  rcases State.postHead_eq s with same | ⟨c, rest, backlog, -, posted⟩
  · rw [same]
    exact inv
  · obtain ⟨o, live, ended, tag, -, kind, -⟩ := orders.backlogOnly c (by rw [backlog]; exact List.mem_cons_self)
    have ok := (chainsInv_iff s).1 inv
    rw [posted, chainsInv_iff]
    by_cases parks : c.kind = .bulkFetch ∧ 0 < c.progress
    · have table : (s.posted c rest).takeCompletionsLevel.table =
          OrderTable.update c.tag (fun o => { o with state := .parked }) { s.table with backlog := rest } := if_pos parks
      have pool : (s.posted c rest).takeCompletionsLevel.pool = s.pool := if_pos parks
      have mem {p : Order} := OrderTable.mem_update_of (t := { s.table with backlog := rest }) orders.tags live
        (f := fun o => { o with state := .parked }) (o := p)
      have fetch : o.kind = .bulkFetch := kind.symm.trans parks.1
      rw [table, pool, tag]
      refine ok.change orders.tags live (o' := { o with state := .parked }) rfl rfl mem (fun _ => ?_) fun _ _ _ h => h
      exact ⟨fun state => (by cases state), fun _ state => (by rcases state with state | state <;> cases state),
        fun _ state => (by rcases state with state | state <;> cases state), fun _ _ => inv.fetched o live fetch (.inl ended),
        fun _ => fetch⟩
    · have table : (s.posted c rest).takeCompletionsLevel.table = OrderTable.release c.tag { s.table with backlog := rest } :=
        if_neg parks
      have chain : s.table.chainOf c.tag = o.chain := by
        unfold OrderTable.chainOf
        rw [tag, OrderTable.find_live orders.tags live]
      have pool : (s.posted c rest).takeCompletionsLevel.pool = s.pool.freeAll o.chain := by
        show (if c.kind = .bulkFetch ∧ 0 < c.progress then s.pool else s.pool.freeAll (s.table.chainOf c.tag)) = _
        rw [if_neg parks, chain]
      have seg := SegmentPool.freeAll_seg o.chain s.pool
      rw [table, pool, tag]
      exact ok.remove orders.tags live (seg' := (s.pool.freeAll o.chain).seg) OrderTable.mem_release
        (fun g out => (seg g).trans (if_neg out)) fun g mine => (seg g).trans (if_pos mine)

theorem chainsInv_of_same {s t : State} (inv : s.ChainsInv) (table : t.table = s.table) (pool : t.pool = s.pool) :
    t.ChainsInv := by
  rw [chainsInv_iff] at inv ⊢
  rwa [table, pool]

/-- The end of an order, whose own segments need not be on their sides. -/
theorem chainsInv_endOrder {s : State} {tag : Byte} {Q : Order → Prop} (orders : s.OrdersInv)
    (ok : ChainsAgree Q s.table.live s.pool.seg) (alone : ∀ q, q.tag ≠ tag → ¬ Q q) {o : Order} (found : s.table.find tag = some o)
    (open_ : o.state.unended = true ∧ s.orderInFlight o = false) (r : Result) (nak : Byte) :
    (s.endOrder tag r nak).ChainsInv := by
  obtain rfl := (OrderTable.find_some found).2
  rw [State.endOrder_eq, found]
  refine (postEnded_inv (p := fun s => s.OrdersInv ∧ s.ChainsInv) (fun s h => ?_) (fun s h => ?_) ?_).2
  · exact ⟨ordersInv_postHead h.1, chainsInv_postHead h.1 h.2⟩
  · exact ⟨ordersInv_of_same h.1 rfl (busy_of_engines rfl), chainsInv_of_same h.2 rfl rfl⟩
  · exact ⟨ordersInv_closeOrder orders found open_.1 open_.2 r nak, chainsInv_closeOrder orders.tags ok alone found r nak⟩

/-! ## Data for a fetch, and the segments of a send -/

/-- The segment at the progress of a BULK_FETCH takes the data, and goes to the host side when it is full (R41, R42). -/
theorem fetchPlaced_seg {s : State} {o : Order} {payload : List Byte} (sided : o.Sided s.pool.seg) (kind : o.kind = .bulkFetch)
    (active : o.state = .active) (fits : payload.length ≤ o.asked) : ∃ g, o.chain[o.progress / 256]? = some g ∧
      ∀ h, (fetchPlaced o payload s).pool.seg h =
        if h = g then ⟨if payload.length = 256 then .hostSide else .trunkSide, some o.tag, payload.length⟩ else s.pool.seg h := by
  obtain ⟨length, block, short, segs⟩ := sided.landing kind (.inr active)
  have asked : o.asked = min 256 (o.length - o.progress) := by
    unfold Order.asked
    rw [kind]
  have within : o.progress / 256 < o.chain.length := by omega
  have at_ : o.chain[o.progress / 256]? = some o.chain[o.progress / 256] := List.getElem?_eq_getElem within
  generalize o.chain[o.progress / 256] = g at at_
  have seg : s.pool.seg g = ⟨.trunkSide, some o.tag, 0⟩ := (segs _ g at_).trans (if_neg (Nat.lt_irrefl _))
  have written := SegmentPool.writeData_fill at_ payload 0 0 s.pool (by omega) seg
  rw [show 256 * (o.progress / 256) + 0 = o.progress by omega, Nat.zero_add] at written
  refine ⟨g, at_, fun h => ?_⟩
  unfold fetchPlaced
  dsimp only
  rw [show o.progress / Config.segmentBytes = o.progress / 256 from rfl, at_]
  by_cases full : payload.length = 256
  · simp only [show (payload.length = Config.segmentBytes) = (payload.length = 256) from rfl, if_pos full]
    show (SegmentPool.setOwner .hostSide g (s.pool.writeData .trunkSide o.tag o.chain o.progress payload)).seg h = _
    rw [SegmentPool.setOwner_seg, written g, if_pos rfl]
    by_cases e : h = g
    · rw [if_pos ⟨e, nofun⟩, if_pos e]
    · rw [if_neg fun c => e c.1, if_neg e, written h, if_neg e]
  · simp only [show (payload.length = Config.segmentBytes) = (payload.length = 256) from rfl, if_neg full]
    exact written h

theorem fetchPlaced_mem {s : State} {o q : Order} {payload : List Byte} (once : (s.table.live.map Order.tag).Nodup)
    (live : o ∈ s.table.live) : q ∈ (fetchPlaced o payload s).table.live ↔
      q = { o with progress := o.progress + payload.length } ∨ (q ∈ s.table.live ∧ q.tag ≠ o.tag) := by
  rw [fetchPlaced_eq]
  exact OrderTable.mem_update_of once live

/-- A block that is not the last leaves the fetch in order; the last one leaves every other order in order. -/
theorem chains_fetchPlaced {s : State} {o : Order} {payload : List Byte} {Q : Order → Prop} (orders : s.OrdersInv)
    (inv : s.ChainsInv) (found : s.table.find o.tag = some o) (kind : o.kind = .bulkFetch) (active : o.state = .active)
    (fits : payload.length ≤ o.asked)
    (whole : ¬ Q { o with progress := o.progress + payload.length } →
      payload.length = 256 ∧ o.progress + payload.length < o.length) :
    ChainsAgree Q (fetchPlaced o payload s).table.live (fetchPlaced o payload s).pool.seg := by
  have live := (OrderTable.find_some found).1
  have ok := (chainsInv_iff s).1 inv
  have sided := ok.sided o live id
  obtain ⟨nodup, carried⟩ := ok.carries o live
  obtain ⟨g, at_, seg⟩ := fetchPlaced_seg (s := s) sided kind active fits
  have mine : g ∈ o.chain := List.mem_of_getElem? at_
  refine ok.replace orders.tags live (some { o with progress := o.progress + payload.length }) (by rintro _ ⟨⟩; rfl)
    (by rintro _ ⟨⟩ h hh; exact hh)
    (fun {q} => (fetchPlaced_mem orders.tags live).trans
      (or_congr_left ⟨fun e => congrArg some e.symm, fun e => (Option.some.inj e).symm⟩))
    (fun h out => (seg h).trans (if_neg fun e => out (by rw [e]; exact mine))) ?_ ?_ (fun _ _ _ _ => id)
    fun h hh none => absurd hh (none { o with progress := o.progress + payload.length } rfl)
  · rintro _ ⟨⟩
    refine ⟨nodup, fun h hh => ?_⟩
    rw [seg]
    split
    · refine ⟨?_, rfl⟩
      dsimp only
      split <;> decide
    · exact carried h hh
  · rintro _ ⟨⟩ held
    obtain ⟨full, more⟩ := whole held
    obtain ⟨length, block, short, segs⟩ := sided.landing kind (.inr active)
    have no {q : OrderState} (ne : q ≠ .active) : ({ o with progress := o.progress + payload.length } : Order).state ≠ q := by
      show o.state ≠ q
      rw [active]
      exact ne.symm
    refine ⟨fun state => absurd state (no (by decide)), fun send => ?_, fun _ _ => ⟨length, ?_, more, fun i h hi => ?_⟩,
      fun _ state => ?_, fun state => absurd state (no (by decide))⟩
    · exact absurd (kind.symm.trans send) (by decide)
    · show (o.progress + payload.length) % 256 = 0
      omega
    · show _ = if i < (o.progress + payload.length) / 256 then _ else _
      rw [seg, show (o.progress + payload.length) / 256 = o.progress / 256 + 1 by omega]
      by_cases e : h = g
      · have place : i = o.progress / 256 := by
          subst e
          exact (List.getElem?_inj (List.getElem?_eq_some_iff.1 hi).1 nodup).1 (hi.trans at_.symm)
        rw [if_pos e, if_pos full, full, if_pos (by omega)]
      · have place : i ≠ o.progress / 256 := by
          rintro rfl
          exact e (Option.some.inj (hi.symm.trans at_))
        rw [if_neg e, segs i h hi]
        by_cases before : i < o.progress / 256
        · rw [if_pos before, if_pos (by omega)]
        · rw [if_neg before, if_neg (by omega)]
    · rcases state with state | state
      · exact absurd state (no (by decide))
      · exact absurd state (no (by decide))

end Sys2Proof.Machine
end

section
/-! PROOFS. The invariant of the segments, act by act, and every step. -/

namespace Sys2Proof.Machine

open Sys2Proof

variable {K J : Prop}

/-- A change of one live order that keeps its chain and leaves its segments on their sides. -/
theorem chainsInv_update {s t : State} {tag : Byte} {f : Order → Order} (inv : s.ChainsInv) (orders : s.OrdersInv)
    (table : t.table.live = (s.table.update tag f).live) (pool : t.pool = s.pool) (hf : ∀ o, (f o).tag = o.tag)
    (chain : ∀ o, (f o).chain = o.chain)
    (sided : ∀ o, s.table.find tag = some o → o.Sided s.pool.seg → (f o).Sided s.pool.seg) : t.ChainsInv := by
  rw [chainsInv_iff] at inv ⊢
  rw [table, pool]
  cases found : s.table.find tag with
  | none =>
    rw [OrderTable.live_update_of_none f found]
    exact inv
  | some o =>
    obtain ⟨live, rfl⟩ := OrderTable.find_some found
    exact inv.change orders.tags live (hf o) (chain o) (OrderTable.mem_update_of orders.tags live)
      (fun _ => sided o found (inv.sided o live id)) fun _ _ _ h => h

/-- A first segment sent is freed, and the chain goes on behind it (R39). -/
theorem chainsInv_sent {s : State} {o : Order} {g : SegId} {rest : List SegId} (n : Nat) (inv : s.ChainsInv) (orders : s.OrdersInv)
    (found : s.table.find o.tag = some o) (chain : o.chain = g :: rest) (kind : o.kind = .bulkSend) (active : o.state = .active) :
    ((s.modPool (SegmentPool.freeSegment g)).modTable
      (OrderTable.update o.tag fun p => { p with progress := n, chain := rest })).ChainsInv := by
  have live := (OrderTable.find_some found).1
  have ok := (chainsInv_iff s).1 inv
  obtain ⟨nodup, carried⟩ := ok.carries o live
  rw [chain] at nodup carried
  obtain ⟨first, nodup⟩ := List.nodup_cons.1 nodup
  have seg (h : SegId) : (s.pool.freeSegment g).seg h = if h = g then ⟨.free, none, 0⟩ else s.pool.seg h :=
    ((s.pool.freeSegment_segs g).1 h).1
  have stays {h : SegId} (hh : h ∈ rest) : (s.pool.freeSegment g).seg h = s.pool.seg h :=
    (seg h).trans (if_neg fun e => first (by rw [← e]; exact hh))
  have no {q : OrderState} (ne : q ≠ .active) : ({ o with progress := n, chain := rest } : Order).state ≠ q := by
    show o.state ≠ q
    rw [active]
    exact ne.symm
  rw [chainsInv_iff]
  refine ok.replace orders.tags live (some { o with progress := n, chain := rest }) (by rintro _ ⟨⟩; rfl)
    (by rintro _ ⟨⟩ h hh; rw [chain]; exact List.mem_cons_of_mem _ hh)
    (fun {q} => (OrderTable.mem_update_of orders.tags live).trans
      (or_congr_left ⟨fun e => congrArg some e.symm, fun e => (Option.some.inj e).symm⟩))
    (fun h out => (seg h).trans (if_neg fun e => out (by rw [e, chain]; exact List.mem_cons_self))) ?_ ?_ (fun _ _ _ h => h)
    fun h hh gone => ?_
  · rintro _ ⟨⟩
    refine ⟨nodup, fun h hh => ?_⟩
    show ((s.pool.freeSegment g).seg h).owner ≠ _ ∧ ((s.pool.freeSegment g).seg h).tag = some o.tag
    rw [stays hh]
    exact carried h (List.mem_cons_of_mem _ hh)
  · rintro _ ⟨⟩ -
    refine ⟨fun state => absurd state (no (by decide)), fun _ _ h hh => ?_, fun fetch => ?_, fun fetch => ?_,
      fun state => absurd state (no (by decide))⟩
    · show ((s.pool.freeSegment g).seg h).owner = _
      rw [stays hh]
      exact inv.sending o live kind (.inr active) h (by rw [chain]; exact List.mem_cons_of_mem _ hh)
    · exact absurd (kind.symm.trans fetch) (by decide)
    · exact absurd (kind.symm.trans fetch) (by decide)
  · rw [chain] at hh
    rcases List.mem_cons.1 hh with rfl | hh
    · exact (seg h).trans (if_pos rfl)
    · exact absurd hh (gone { o with progress := n, chain := rest } rfl)

theorem OrderKind.lengthOk_pos {k : OrderKind} {n : Nat} (bulk : k.isBulk = true) (h : k.lengthOk n = true) : 0 < n := by
  cases k <;> simp [OrderKind.isBulk, OrderKind.lengthOk] at bulk h <;> omega

theorem OrderKind.isBulk_iff (k : OrderKind) : k.isBulk = true ↔ k = .bulkSend ∨ k = .bulkFetch := by
  cases k <;> simp [OrderKind.isBulk]

/-- The lowest-numbered FREE segments go to a submitted bulk order (R31). -/
theorem chainsInv_submit {s : State} {p : List Byte} {o : Order} (inv : s.ChainsInv) (orders : s.OrdersInv)
    (listed : s.freeListInv) (form : submittedOrder p s.interval.tick = some o) (tests : ∀ c ∈ submitTests o s, c.1 = false) :
    (submitPlaced o s).ChainsInv := by
  obtain ⟨-, -, -, enough⟩ := submitTests_passed tests
  obtain ⟨state, -, progress, range⟩ := submittedOrder_form form
  have ok := (chainsInv_iff s).1 inv
  obtain ⟨sorted, free⟩ := (SegmentPool.freeListed_iff s.pool).1 listed
  rw [chainsInv_iff, submitPlaced_pool]
  obtain ⟨k, hk⟩ : ∃ k, k = if o.kind.isBulk then segmentsFor o.length else 0 := ⟨_, rfl⟩
  have chain : (o.withChain s.pool).chain = s.pool.freeList.take k := by rw [hk]; rfl
  have nodup : (s.pool.freeList.take k).Nodup := (sorted.imp ne_of_lt).sublist (List.take_sublist k _)
  have seg (g : SegId) : (s.pool.submitted o).seg g = if g ∈ s.pool.freeList.take k then
      ⟨if o.kind = .bulkSend then .hostSide else .trunkSide, some o.tag, 0⟩ else s.pool.seg g := by
    unfold SegmentPool.submitted
    rw [hk]
    by_cases bulk : o.kind.isBulk = true
    · rw [if_pos bulk, if_pos bulk, SegmentPool.allocate_seg]
    · rw [if_neg bulk, if_neg bulk]
      simp
  have size (bulk : o.kind.isBulk = true) : (o.withChain s.pool).chain.length = (o.length + 255) / 256 := by
    have := enough bulk
    rw [chain, List.length_take, hk, if_pos bulk]
    exact Nat.min_eq_left this
  have mine {g : SegId} (hg : g ∈ (o.withChain s.pool).chain) : (s.pool.submitted o).seg g =
      ⟨if o.kind = .bulkSend then .hostSide else .trunkSide, some o.tag, 0⟩ := by
    rw [chain] at hg
    exact (seg g).trans (if_pos hg)
  refine ok.insert (fun {q} => submitPlaced_mem orders.tags form tests) (fun g hg => ?_)
    (fun g out => (seg g).trans (if_neg (chain ▸ out))) ⟨by rw [chain]; exact nodup, fun g hg => ?_⟩
    ⟨fun filling => ?_, fun send queued => ?_, fun fetch _ => ?_, fun _ ended => ?_, fun parked => ?_⟩
  · rw [chain] at hg
    exact (free g).1 (List.mem_of_mem_take hg)
  · rw [mine hg]
    refine ⟨?_, rfl⟩
    dsimp only
    split <;> decide
  · change o.state = .filling at filling
    rw [filling] at state
    by_cases send : o.kind = .bulkSend
    · refine ⟨send, size ((OrderKind.isBulk_iff _).2 (.inl send)), fun g hg => ?_⟩
      rw [mine hg, if_pos send]
    · rw [if_neg send] at state
      cases state
  · change o.kind = .bulkSend at send
    change o.state = .queued ∨ o.state = .active at queued
    rw [state, if_pos send] at queued
    rcases queued with h | h <;> cases h
  · change o.kind = .bulkFetch at fetch
    have bulk := (OrderKind.isBulk_iff _).2 (.inr fetch)
    have zero : (o.withChain s.pool).progress = 0 := progress
    refine ⟨size bulk, by rw [zero], by rw [zero]; exact OrderKind.lengthOk_pos bulk range, fun i g hi => ?_⟩
    rw [mine (List.mem_of_getElem? hi), zero, if_neg (Nat.not_lt_zero i), fetch]
    rfl
  · change o.state = .ended ∨ o.state = .parked at ended
    rw [state] at ended
    split at ended <;> rcases ended with h | h <;> cases h
  · change o.state = .parked at parked
    rw [state] at parked
    split at parked <;> cases parked

/-- Data of the host leaves the owners and tags of a FILLING order (R36). -/
theorem chainsInv_fill {s : State} {tag : Byte} {o : Order} (offset : Nat) (data : List Byte) (n : Nat) (inv : s.ChainsInv)
    (orders : s.OrdersInv) (found : s.table.find tag = some o) (filling : o.state = .filling) :
    ((s.modPool (SegmentPool.writeData .hostSide tag o.chain offset data)).modTable
      (OrderTable.update tag fun o => { o with fill := o.fill + n })).ChainsInv := by
  obtain ⟨live, rfl⟩ := OrderTable.find_some found
  have ok := (chainsInv_iff s).1 inv
  obtain ⟨nodup, carried⟩ := ok.carries o live
  have seg := SegmentPool.writeData_tags .hostSide o.tag o.chain offset data s.pool
  have no {q : OrderState} (ne : q ≠ .filling) : ({ o with fill := o.fill + n } : Order).state ≠ q := by
    show o.state ≠ q
    rw [filling]
    exact ne.symm
  rw [chainsInv_iff]
  refine ok.replace orders.tags live (some { o with fill := o.fill + n }) (by rintro _ ⟨⟩; rfl) (by rintro _ ⟨⟩ h hh; exact hh)
    (fun {q} => (OrderTable.mem_update_of orders.tags live).trans
      (or_congr_left ⟨fun e => congrArg some e.symm, fun e => (Option.some.inj e).symm⟩))
    (fun h out => (seg h).2.2 out) ?_ ?_ (fun _ _ _ h => h) fun h hh gone => absurd hh (gone { o with fill := o.fill + n } rfl)
  · rintro _ ⟨⟩
    refine ⟨nodup, fun h hh => ?_⟩
    obtain ⟨owner, mark, -⟩ := seg h
    show ((s.pool.writeData .hostSide o.tag o.chain offset data).seg h).owner ≠ _ ∧
      ((s.pool.writeData .hostSide o.tag o.chain offset data).seg h).tag = some o.tag
    rw [owner, mark]
    exact carried h hh
  · rintro _ ⟨⟩ -
    obtain ⟨kind, length, host⟩ := inv.filling o live filling
    refine ⟨fun _ => ⟨kind, length, fun h hh => (seg h).1.trans (host h hh)⟩, fun _ queued => ?_, fun fetch => ?_,
      fun fetch => ?_, fun parked => absurd parked (no (by decide))⟩
    · rcases queued with h | h
      · exact absurd h (no (by decide))
      · exact absurd h (no (by decide))
    · exact absurd (kind.symm.trans fetch) (by decide)
    · exact absurd (kind.symm.trans fetch) (by decide)

/-- A committed BULK_SEND goes to the trunk side (R38). -/
theorem chainsInv_commit {s : State} {tag : Byte} {o : Order} (inv : s.ChainsInv) (orders : s.OrdersInv)
    (found : s.table.find tag = some o) (filling : o.state = .filling) : (commitPlaced o s).ChainsInv := by
  obtain ⟨live, rfl⟩ := OrderTable.find_some found
  have ok := (chainsInv_iff s).1 inv
  obtain ⟨nodup, carried⟩ := ok.carries o live
  obtain ⟨kind, -, -⟩ := inv.filling o live filling
  have seg := commit_seg o.chain s.pool
  have mine {g : SegId} (hg : g ∈ o.chain) :
      ((o.chain.foldl (fun p g => p.setOwner .trunkSide g) s.pool).seg g).owner = .trunkSide ∧
      ((o.chain.foldl (fun p g => p.setOwner .trunkSide g) s.pool).seg g).tag = some o.tag := by
    obtain ⟨taken, tag⟩ := carried g hg
    rw [seg, if_pos hg]
    unfold Segment.committed
    rw [if_neg taken]
    exact ⟨rfl, tag⟩
  rw [chainsInv_iff, commitPlaced_pool, commitPlaced_table, OrderTable.entered_live found]
  refine ok.replace orders.tags live (some { o with state := .queued }) (by rintro _ ⟨⟩; rfl) (by rintro _ ⟨⟩ h hh; exact hh)
    (fun {q} => (OrderTable.mem_update_of orders.tags live).trans
      (or_congr_left ⟨fun e => congrArg some e.symm, fun e => (Option.some.inj e).symm⟩))
    (fun h out => (seg h).trans (if_neg out)) ?_ ?_ (fun _ _ _ h => h)
    fun h hh gone => absurd hh (gone { o with state := .queued } rfl)
  · rintro _ ⟨⟩
    refine ⟨nodup, fun h hh => ?_⟩
    obtain ⟨owner, tag⟩ := mine hh
    rw [owner]
    exact ⟨by decide, tag⟩
  · rintro _ ⟨⟩ -
    exact ⟨fun state => (by cases state), fun _ _ h hh => (mine hh).1, fun fetch => absurd (kind.symm.trans fetch) (by decide),
      fun fetch => absurd (kind.symm.trans fetch) (by decide), fun state => (by cases state)⟩

theorem chainsInv_retire {s : State} {tag : Byte} {o : Order} (inv : s.ChainsInv) (orders : s.OrdersInv)
    (found : s.table.find tag = some o) :
    ((s.modPool (SegmentPool.freeAll o.chain)).modTable (OrderTable.release o.tag)).ChainsInv := by
  obtain ⟨live, rfl⟩ := OrderTable.find_some found
  have seg := SegmentPool.freeAll_seg o.chain s.pool
  rw [chainsInv_iff] at inv ⊢
  exact inv.remove orders.tags live (seg' := (s.pool.freeAll o.chain).seg) OrderTable.mem_release
    (fun g out => (seg g).trans (if_neg out)) fun g mine => (seg g).trans (if_pos mine)

/-- Every act keeps the segments in order, together with the agreement of the Order Table and the free list. -/
theorem Act.chainsInv {s t : State} (h : Act K J s t) (k : K) (orders : s.OrdersInv) (listed : s.freeListInv)
    (inv : s.ChainsInv) : t.ChainsInv := by
  have same {t : State} (table : t.table = s.table) (pool : t.pool = s.pool) : t.ChainsInv := chainsInv_of_same inv table pool
  have ok := (chainsInv_iff s).1 inv
  cases h with
  | aside h => exact same h.table h.pool
  | notices | attention | settings | drop | hold | engine => exact same rfl rfl
  | take r =>
    have posted := post_inv (p := fun s => s.OrdersInv ∧ s.ChainsInv)
      (fun s h => ⟨ordersInv_postHead h.1, chainsInv_postHead h.1 h.2⟩) s.table.backlog.length
      (s := s.modCompletions fun q => ({ q with records := q.records.drop r }).testHead s.interval.tick)
      ⟨ordersInv_of_same orders rfl (busy_of_engines rfl), same rfl rfl⟩
    exact chainsInv_of_same posted.2 rfl rfl
  | endOrder tag r nak open_ =>
    cases found : s.table.find tag with
    | none =>
      rw [State.endOrder_eq, found]
      exact inv
    | some o => exact chainsInv_endOrder orders ok (fun _ _ => id) found (open_ k o found) r nak
  | update tag f keeps open_ =>
    refine chainsInv_update (s := s) (tag := tag) (f := f) inv orders rfl rfl (fun o => by rw [keeps o]) (fun o => by rw [keeps o])
      fun o found sided => ?_
    have progress := (open_ k o found).2
    rw [keeps o]
    refine ⟨sided.filling, sided.sending, fun fetch queued => ?_, sided.fetched, sided.parked⟩
    have landing := sided.landing fetch queued
    rw [← progress fetch] at landing
    exact landing
  | sent o g rest n found chain kind active => exact chainsInv_sent n inv orders found chain kind (active k)
  | landed o payload found kind active block more =>
    have whole : payload.length = 256 := by
      unfold Order.asked at block
      rw [kind] at block
      have : payload.length = min 256 (o.length - o.progress) := block
      omega
    exact (chainsInv_iff _).2 (chains_fetchPlaced orders inv found kind (active k) (Nat.le_of_eq block) fun _ => ⟨whole, more⟩)
  | landedLast o payload found kind active fits =>
    obtain ⟨active, idle⟩ := active k
    have placed := chains_fetchPlaced (Q := fun q => q.tag = o.tag) orders inv found kind active fits fun other => absurd rfl other
    have after := ordersInv_fetchPlaced orders payload found active
    have live := (OrderTable.find_some found).1
    have found' := OrderTable.find_live after.tags ((fetchPlaced_mem (payload := payload) orders.tags live).2 (.inl rfl))
    refine chainsInv_endOrder after placed (fun _ => id) found' ⟨?_, ?_⟩ _ _
    · show o.state.unended = true
      rw [active]
      rfl
    · rw [fetchPlaced_orderInFlight]
      exact idle
  | start n o burst head offered =>
    obtain ⟨-, found⟩ := OrderTable.head_some head
    refine chainsInv_update (s := s) (tag := o.tag) (f := fun o => { o with state := .active }) inv orders
      (by rw [State.startOrderExchange_eq]) (by rw [State.startOrderExchange_eq]) (fun _ => rfl) (fun _ => rfl)
      fun p hp sided => ?_
    rw [found] at hp
    cases hp
    exact ⟨fun state => (by cases state), fun kind _ => sided.sending kind offered, fun kind _ => sided.landing kind offered,
      fun _ state => (by rcases state with state | state <;> cases state), fun state => (by cases state)⟩
  | submit p o form tests => exact chainsInv_submit inv orders listed form tests
  | fill tag o offset data n found filling => exact chainsInv_fill offset data n inv orders found filling
  | commit tag o found filling => exact chainsInv_commit inv orders found filling
  | retire tag o found => exact chainsInv_retire inv orders found

theorem Acts.chainsInv {s t : State} (h : Acts K J s t) (k : K) (orders : s.OrdersInv) (listed : s.freeListInv)
    (inv : s.ChainsInv) : t.OrdersInv ∧ t.freeListInv ∧ t.ChainsInv := by
  induction h with
  | refl => exact ⟨orders, listed, inv⟩
  | tail _ last ih =>
    obtain ⟨orders, listed, inv⟩ := ih
    exact ⟨last.ordersInv k orders, freeList_kept.act last listed, last.chainsInv k orders listed inv⟩

theorem released_chainsInv (pending : List Instr) (cause : ResetKind) (unit rate : BitVec 2) (low : Bool)
    (sense : Vector Bool 3) : (State.released pending cause unit rate low sense).ChainsInv := by
  have live := released_live pending cause unit rate low sense
  have seg (g : SegId) : (State.released pending cause unit rate low sense).pool.seg g = ⟨.free, none, 0⟩ := by
    simp [State.released, SegmentPool.reset, SegmentPool.seg]
  rw [chainsInv_iff, live]
  refine ⟨fun _ h => absurd h List.not_mem_nil, fun _ h => absurd h List.not_mem_nil, fun _ h => absurd h List.not_mem_nil,
    fun g taken => ?_, fun g _ => seg g⟩
  rw [seg] at taken
  exact absurd rfl taken

theorem chainsInvKept : KeptByStep fun s => s.OrdersInv ∧ s.freeListInv ∧ s.ChainsInv := by
  have same {s t : State} (h : s.OrdersInv ∧ s.freeListInv ∧ s.ChainsInv) (orders : t.OrdersInv) (table : t.table = s.table)
      (pool : t.pool = s.pool) : t.OrdersInv ∧ t.freeListInv ∧ t.ChainsInv := by
    refine ⟨orders, ?_, chainsInv_of_same h.2.2 table pool⟩
    unfold State.freeListInv
    rw [pool]
    exact h.2.1
  exact keptByStep_of_acts (fun _ _ h => same h (ordersInv_of_same h.1 rfl (busy_of_engines rfl)) rfl rfl)
    (fun _ _ acts h => Acts.chainsInv acts h.1 h.1 h.2.1 h.2.2)
    (fun _ k h => same h (ordersInv_beginReset k h.1) rfl rfl)
    (fun _ _ _ _ _ _ => ⟨released_ordersInv _ _ _ _ _ _, released_freeListInv _ _ _ _ _ _, released_chainsInv _ _ _ _ _ _⟩)
    (fun _ _ h => same h (ordersInv_of_same h.1 rfl (busy_of_engines rfl)) rfl rfl)
    fun _ _ h => same h (ordersInv_of_same h.1 rfl (busy_of_engines rfl)) rfl rfl

/-- Settles O56: memory and free list are kept by each operation on segments, and the chains by each act on a live order. -/
theorem segmentPoolInvariantKept : Obligations.SegmentPoolInvariantKept := ⟨memoryInvKept, freeListInvKept, chainsInvKept⟩

/-! ## The reset state -/

theorem released_trunkInv (pending : List Instr) (cause : ResetKind) (unit rate : BitVec 2) (low : Bool)
    (sense : Vector Bool 3) : (State.released pending cause unit rate low sense).trunkInv := by
  rw [trunkInv_iff]
  intro t
  simp [TrunkOk, State.released, TrunkControl.reset, SupplyMonitor.reset, Engine.reset, Scheduler.reset]

theorem released_quietInv (pending : List Instr) (cause : ResetKind) (unit rate : BitVec 2) (low : Bool)
    (sense : Vector Bool 3) : (State.released pending cause unit rate low sense).quietInv := by
  refine fun _ => ⟨rfl, fun reset => (by cases reset), fun t => ⟨?_, ?_, fun _ => ?_⟩⟩
  · simp [State.released, SupplyMonitor.reset]
  · simp [State.released, Engine.reset]
  · simp [State.released, TrunkControl.reset]

/-- Settles O60: the reset state is a part at the release of a reset, where every table is empty. -/
theorem invariantsHoldAtReset : Obligations.InvariantsHoldAtReset := by
  refine ⟨released_postingInv _ _ _ _ _ _, released_noticesInv _ _ _ _ _ _, released_memoryInv _ _ _ _ _ _,
    released_freeListInv _ _ _ _ _ _, released_trunkInv _ _ _ _ _ _, released_quietInv _ _ _ _ _ _, ?_,
    ⟨Nat.le_refl 100, (by decide : 100 ≤ 6000), (by decide : 0 < 100), nofun, fun _ => ⟨rfl, rfl⟩⟩,
    released_queueInv _ _ _ _ _ _, released_ordersInv _ _ _ _ _ _, released_exchangesInv _ _ _ _ _ _,
    released_chainsInv _ _ _ _ _ _⟩
  exact HostLine.Agrees.atRest rfl rfl rfl rfl rfl (Nat.zero_le _)

end Sys2Proof.Machine
end

section
/-! PROOFS. The machine's step, the forms the requests share, and the requests of chapters 8, 10 and 11 that no block owns. -/

namespace Sys2Proof.Machine

open Sys2Proof

/-! ## The step -/

theorem step_cons (c : Instr) (rest : List Instr) (s : State) :
    step { s with pending := c :: rest } = exec c { s with pending := rest } := rfl

theorem step_idle {s : State} (h : s.pending = []) : step s = .next s := by
  unfold step
  rw [h]

/-- Settles O1: the two branches of the step. -/
theorem stepRunsFrontCommand : Obligations.StepRunsFrontCommand := ⟨step_cons, fun _ => step_idle⟩

/-! ## A request refused by its rule -/

/-- Settles O4: every answer of a known request is a refusal that changes nothing, or carries one of the two other outcomes. -/
theorem refusedRequestChangesNothing : Obligations.RefusedRequestChangesNothing := by
  intro i kind p s t r request hears fits run reply notAccepted notPending
  obtain ⟨req, known, h⟩ := exec_request request
  rw [h, deliver_heard hears _ _ fits] at run
  injection run with run
  subst run
  rcases (KnownRequest.of_requestOf known).follows p (s.taken kind p) with ⟨o, answer⟩ | ⟨outcome, -⟩
  · rw [answer] at reply ⊢
    obtain rfl : ⟨kind, o, [], decide (kind = 0x03) && decide (o = .accepted)⟩ = r := Option.some.inj reply
    exact ⟨rfl, rfl, refuse_fixed kind o s p notAccepted⟩
  · obtain rfl := Option.some.inj reply
    exact absurd outcome (not_or.2 ⟨notAccepted, notPending⟩)

/-- A request that a part in service refuses by its own conditions (R171). -/
theorem exec_refused {mk : List Byte → Instr} {kind : Byte} {req : Request} {p : List Byte} {s : State} {o : OutcomeCode}
    (hs : s.serves) (hp : p.length ≤ 200) (hmk : exec (mk p) s = .next (deliver kind req p s)) (ho : o ≠ .accepted)
    (hreq : req p (s.taken kind p) = refuse o (s.taken kind p)) : exec (mk p) s = .next (s.answered kind p o []) := by
  rw [exec_served hs hp hmk, hreq, refuse_fixed _ _ _ _ ho]

/-! ## Requests that name a node, a trunk or an order -/

@[simp] theorem nodeOfByte_byteOf (n : NodeId) : nodeOfByte (byteOf n.val) = some n := by
  revert n
  decide

@[simp] theorem trunkOfByte_byteOf (t : TrunkId) : trunkOfByte (byteOf t.val) = some t := by
  revert t
  decide

theorem nodeOfByte_isSome (b : Byte) : (nodeOfByte b).isSome = true ↔ b.toNat ≤ 23 := by
  unfold nodeOfByte
  split <;> simp <;> omega

theorem trunkOfByte_isSome (b : Byte) : (trunkOfByte b).isSome = true ↔ b.toNat ≤ 2 := by
  unfold trunkOfByte
  split <;> simp <;> omega

/-- A request for a node, in a part that serves it, is judged for that node. -/
theorem nodeRequest_taken {s : State} (hs : s.serves) (k : Byte) (n : NodeId) (body : NodeId → State → Answer) :
    nodeRequest [byteOf n.val] body (s.taken k [byteOf n.val]) = body n (s.taken k [byteOf n.val]) := by
  have named : nodeOfByte (byteAt [byteOf n.val] 0) = some n := nodeOfByte_byteOf n
  unfold nodeRequest
  rw [named]
  exact checked_pass rfl rfl (gateReady_taken hs _ _)

/-- A request for a trunk, in a part that serves it, is judged for that trunk. -/
theorem trunkRequest_taken {s : State} (hs : s.serves) (k : Byte) {p : List Byte} {t : TrunkId} {length : Nat} {fieldsOk : Bool}
    (long : p.length = length) (fields : fieldsOk = true) (first : byteAt p 0 = byteOf t.val) (body : TrunkId → State → Answer) :
    trunkRequest length fieldsOk p body (s.taken k p) = body t (s.taken k p) := by
  have named : trunkOfByte (byteAt p 0) = some t := by rw [first, trunkOfByte_byteOf]
  unfold trunkRequest
  rw [named]
  exact checked_pass (decide_eq_true long) fields (gateReady_taken hs _ _)

theorem trunkOnlyRequest_taken {s : State} (hs : s.serves) (k : Byte) (t : TrunkId) (body : TrunkId → State → Answer) :
    trunkRequest 1 true [byteOf t.val] body (s.taken k [byteOf t.val]) = body t (s.taken k [byteOf t.val]) :=
  trunkRequest_taken hs k rfl rfl rfl body

/-- A request for an order, in a part that serves it, is judged for the live order of its tag (R2). -/
theorem tagRequest_taken {s : State} (hs : s.serves) (k : Byte) {tag : Byte} (named : tag ≠ 0)
    (body : Order → State → Answer) : tagRequest [tag] body (s.taken k [tag]) = withOrder tag body (s.taken k [tag]) := by
  unfold tagRequest
  exact checked_pass rfl (decide_eq_true named) (gateReady_taken hs _ _)

theorem withOrder_some {tag : Byte} {o : Order} {s : State} (found : s.table.find tag = some o)
    (body : Order → State → Answer) : withOrder tag body s = body o s := by
  unfold withOrder
  rw [found]

theorem withOrder_none {tag : Byte} {s : State} (absent : s.table.find tag = none) (body : Order → State → Answer) :
    withOrder tag body s = refuse .noSuchTag s := by
  unfold withOrder
  rw [absent]

theorem tagRequest_absent {s : State} (hs : s.serves) (k : Byte) {tag : Byte} (named : tag ≠ 0)
    (absent : s.table.find tag = none) (body : Order → State → Answer) :
    tagRequest [tag] body (s.taken k [tag]) = refuse .noSuchTag (s.taken k [tag]) :=
  (tagRequest_taken hs k named body).trans (withOrder_none (s := s.taken k [tag]) absent body)

theorem tagRequest_found {s : State} (hs : s.serves) (k : Byte) {tag : Byte} (named : tag ≠ 0) {o : Order}
    (found : s.table.find tag = some o) (body : Order → State → Answer) :
    tagRequest [tag] body (s.taken k [tag]) = body o (s.taken k [tag]) :=
  (tagRequest_taken hs k named body).trans (withOrder_some (s := s.taken k [tag]) found body)

/-- The shared refusals of a request for a node. -/
theorem nodeRequest_refusesBadForms {mk : List Byte → Instr} {kind : Byte} {body : NodeId → State → Answer}
    (hmk : ∀ p s, exec (mk p) s = .next (deliver kind (fun p s => nodeRequest p body s) p s)) :
    RefusesBadForms mk kind (fun p => p.length = 1) (fun p => (byteAt p 0).toNat ≤ 23) :=
  refusesBadForms_of hmk (l := fun p => decide (p.length = 1)) (fun _ _ => ⟨_, rfl⟩) (fun _ => decide_eq_true_iff)
    fun _ _ => nodeOfByte_isSome _

/-- The shared refusals of a request for a trunk. -/
theorem trunkRequest_refusesBadForms {mk : List Byte → Instr} {kind : Byte} {length : Nat} {fieldsOk : List Byte → Bool}
    {body : List Byte → TrunkId → State → Answer} {fields : List Byte → Prop}
    (hmk : ∀ p s, exec (mk p) s = .next (deliver kind (fun p s => trunkRequest length (fieldsOk p) p (body p) s) p s))
    (hf : ∀ p, (byteAt p 0).toNat ≤ 2 ∧ fieldsOk p = true ↔ fields p) :
    RefusesBadForms mk kind (fun p => p.length = length) fields :=
  refusesBadForms_of hmk (l := fun p => decide (p.length = length)) (fun _ _ => ⟨_, rfl⟩) (fun _ => decide_eq_true_iff)
    fun p _ => (Bool.and_eq_true_iff.trans (and_congr_left' (trunkOfByte_isSome _))).trans (hf p)

/-- The shared refusals of a request whose whole payload is a trunk. -/
theorem trunkOnlyRequest_refusesBadForms {mk : List Byte → Instr} {kind : Byte} {body : TrunkId → State → Answer}
    (hmk : ∀ p s, exec (mk p) s = .next (deliver kind (fun p s => trunkRequest 1 true p body s) p s)) :
    RefusesBadForms mk kind (fun p => p.length = 1) (fun p => (byteAt p 0).toNat ≤ 2) :=
  trunkRequest_refusesBadForms (fieldsOk := fun _ => true) (body := fun _ => body) hmk fun _ => and_iff_left rfl

/-- The shared refusals of a request for an order (R2). -/
theorem tagRequest_refusesBadForms {mk : List Byte → Instr} {kind : Byte} {body : Order → State → Answer}
    (hmk : ∀ p s, exec (mk p) s = .next (deliver kind (fun p s => tagRequest p body s) p s)) :
    RefusesBadForms mk kind (fun p => p.length = 1) (fun p => byteAt p 0 ≠ 0) :=
  refusesBadForms_of hmk (l := fun p => decide (p.length = 1)) (f := fun p => decide (byteAt p 0 ≠ 0))
    (fun _ _ => ⟨_, rfl⟩) (fun _ => decide_eq_true_iff) fun _ _ => decide_eq_true_iff

/-! ## A change of one live order -/

/-- A change of one live order, found by its tag: its entry is changed and every other stays. -/
theorem OrderTable.find_update_same {t : OrderTable} {tag : Byte} {f : Order → Order} {o : Order} (hf : ∀ o, (f o).tag = o.tag)
    (found : t.find tag = some o) : (t.update tag f).find tag = some (f o) := by
  rw [OrderTable.find_update hf, found]
  exact congrArg some (if_pos (OrderTable.find_some found).2)

theorem OrderTable.find_update_other {t : OrderTable} {tag u : Byte} {f : Order → Order} (hf : ∀ o, (f o).tag = o.tag)
    (other : u ≠ tag) : (t.update tag f).find u = t.find u := by
  rw [OrderTable.find_update hf]
  cases at_ : t.find u with
  | none => rfl
  | some p => exact congrArg some (if_neg ((OrderTable.find_some at_).2 ▸ other))

/-! ## RESET_PART -/

/-- Settles O9: the checks of READ_IDENTITY, and an acceptance that a reset follows. -/
theorem resetPartAnswer : Obligations.ResetPartAnswer := by
  intro p s hs hp
  have run : exec (.resetPart p) s = .next ((reqResetPart p (s.taken 0x03 p)).fixed 0x03) := by
    rw [← deliver_heard hs _ _ hp]
    rfl
  rw [run]
  refine ⟨fun nonempty => ?badLength, ?starting, ?accepted⟩
  case badLength =>
    rw [reqResetPart, List.isEmpty_eq_false_iff.2 nonempty, checked_badLength, refuse_fixed _ _ _ _ (by decide)]
  case starting =>
    rintro rfl part
    have refused : reqResetPart [] (s.taken 0x03 []) = refuse .starting (s.taken 0x03 []) :=
      checked_gate rfl rfl (congrArg gateIdentity part)
    rw [refused, refuse_fixed _ _ _ _ (by decide)]
  case accepted =>
    rintro rfl part
    have accepted : reqResetPart [] (s.taken 0x03 []) = accept (s.taken 0x03 []) :=
      checked_pass rfl rfl (gateIdentity_eq_none part)
    rw [accepted]
    rfl

/-! ## The memory check -/

/-- Settles O12: both ends of the memory check act in STARTING. -/
theorem memoryCheckEnds : Obligations.MemoryCheckEnds := by
  intro s starting
  exact ⟨congrArg _ (if_pos starting), congrArg _ (if_pos starting)⟩

/-! ## READ_STATUS -/

/-- Two sets of three trunk flags in one byte, the first from bit 0 and the second from bit 4 (8.6). -/
theorem trunkBits_or_shifted (a b c d e f : Bool) :
    trunkBits a b c ||| trunkBits d e f <<< 4 =
      byteOf ((if a then 1 else 0) + (if b then 2 else 0) + (if c then 4 else 0) + (if d then 16 else 0) +
        (if e then 32 else 0) + (if f then 64 else 0)) := by
  revert a b c d e f
  decide

/-- Settles O13: the payload against the state in which the frame has been taken, whose blocks are those before. -/
theorem readStatusAnswer : Obligations.ReadStatusAnswer := by
  refine ⟨rfl, rfl, rfl, fun p s hs hp => ?_⟩
  have run : exec (.readStatus p) s = .next ((reqReadStatus p (s.taken 0x02 p)).fixed 0x02) := by
    rw [← deliver_heard hs _ _ hp]
    rfl
  rw [run]
  refine ⟨fun nonempty => ?_, ?_⟩
  · rw [reqReadStatus, List.isEmpty_eq_false_iff.2 nonempty, checked_badLength, refuse_fixed _ _ _ _ (by decide)]
  · rintro rfl
    have accepted : reqReadStatus [] (s.taken 0x02 []) = acceptWith (statusPayload s) (s.taken 0x02 []) :=
      checked_pass rfl rfl rfl
    rw [accepted, acceptWith_fixed (by decide), statusPayload, trunkBits_or_shifted]
    rfl

/-! ## SET_NOTICE_MASK -/

/-- A latched flag whose mask bit falls is cleared (R145). -/
theorem getLsbD_maskedOut (flags old new : Word) (i : Nat) :
    (flags &&& ~~~(latchedFlags &&& old &&& ~~~new)).getLsbD i =
      (flags.getLsbD i && !(decide (2 ≤ i ∧ i ≤ 8) && old.getLsbD i && !new.getLsbD i)) := by
  rw [BitVec.and_assoc, getLsbD_clear_latched, BitVec.getLsbD_and, BitVec.getLsbD_not]
  by_cases h : i < 16
  · simp [h, Bool.and_assoc]
  · simp [BitVec.getLsbD_of_ge flags i (by omega)]

/-- The Notice Unit after a SET_NOTICE_MASK of this mask (R145). -/
def NoticeUnit.masked (mask : Word) (n : NoticeUnit) : NoticeUnit :=
  { n with flags := n.flags &&& ~~~(latchedFlags &&& n.mask &&& ~~~mask), mask := mask }

/-- The rule of SET_NOTICE_MASK: the checks, then the mask (R145). -/
theorem reqSetNoticeMask_eq (p : List Byte) (s : State) : reqSetNoticeMask p s =
    checked gateReady (decide (p.length = 2)) (decide (wordAt p 0 &&& unusedFlags = 0))
      (fun s => accept (s.withNotices (NoticeUnit.masked (wordAt p 0)))) s := rfl

/-- ATTN of a READY part is taken from the flags and the mask (R148). -/
theorem withNotices_ready {s : State} (ready : s.startUp.part = .ready) (f : NoticeUnit → NoticeUnit) :
    s.withNotices f = { s with notices :=
      { f s.notices with attn := decide ((f s.notices).flags &&& (f s.notices).mask ≠ 0) } } := by
  unfold State.withNotices attnLevel
  rw [decide_eq_true ready, Bool.true_and]

/-- Settles O14: the refusals are the shared checks, and the flags are those whose mask bit does not fall. -/
theorem setNoticeMaskEffect : Obligations.SetNoticeMaskEffect := by
  refine ⟨?_, fun lo hi s hs range => ⟨_, getLsbD_maskedOut s.notices.flags s.notices.mask (hi ++ lo), ?_⟩⟩
  · exact refusesBadForms_of (req := reqSetNoticeMask) (l := fun p => decide (p.length = 2))
      (f := fun p => decide (wordAt p 0 &&& unusedFlags = 0)) (fun _ _ => rfl) (fun p s => ⟨_, reqSetNoticeMask_eq p s⟩)
      (fun _ => decide_eq_true_iff) fun _ _ => decide_eq_true_iff.trans (append_and_unusedFlags_eq_zero _ _)
  · have unused : wordAt [lo, hi] 0 &&& unusedFlags = 0 := (append_and_unusedFlags_eq_zero hi lo).2 range
    have ready : (s.taken 0x08 [lo, hi]).startUp.part = .ready := hs.1
    have masked : reqSetNoticeMask [lo, hi] (s.taken 0x08 [lo, hi]) =
        acceptWith [] ((s.taken 0x08 [lo, hi]).withNotices (NoticeUnit.masked (hi ++ lo))) := by
      rw [reqSetNoticeMask_eq]
      exact checked_pass rfl (decide_eq_true unused) (gateReady_taken hs _ _)
    rw [exec_accepted (mk := .setNoticeMask) hs (by simp) rfl (by decide) masked, withNotices_ready ready]
    rfl

end Sys2Proof.Machine
end

section
/-! PROOFS. The requests that read a block or write one register of it: their payloads and their effects. -/

namespace Sys2Proof.Machine

open Sys2Proof

/-! ## Flags and counts in a payload -/

theorem flagByte_eq_ite (p : Prop) [Decidable p] {b : Bool} (h : b = true ↔ p) : flagByte b = if p then 1 else 0 := by
  unfold flagByte
  by_cases hp : p
  · rw [if_pos hp, if_pos (h.2 hp)]
  · rw [if_neg hp, if_neg (mt h.1 hp)]

/-- Three flags as the bits 0, 1, 2 of their byte. -/
theorem flagBits_eq_sum (a b c : Bool) : flagByte a ||| flagByte b <<< 1 ||| flagByte c <<< 2 =
    byteOf ((if a then 1 else 0) + (if b then 2 else 0) + (if c then 4 else 0)) := by
  revert a b c
  decide

theorem leNat_eq (n : Nat) : leNat n = [byteOf n, byteOf (n / 256)] := by
  have low : (BitVec.ofNat 16 n).setWidth 8 = byteOf n := by
    apply BitVec.eq_of_toNat_eq
    simp [byteOf]
  have high : (BitVec.ofNat 16 n >>> 8).setWidth 8 = byteOf (n / 256) := by
    apply BitVec.eq_of_toNat_eq
    simp [byteOf, Nat.shiftRight_eq_div_pow]
    omega
  rw [leNat, leWord, low, high]

/-! ## SET_COMPLETION_NOTICE -/

theorem takeCompletionsLevel_eq_levelSet (s : State) :
    s.takeCompletionsLevel = s.levelSet 0x0001 s.completions.level := rfl

/-- The two limits written, with the head tested and the level taken anew (R134, R135). -/
def State.limitsSet (watermark ageLimit : Nat) (s : State) : State :=
  (s.modCompletions fun q => ({ q with watermark := watermark, ageLimit := ageLimit }).testHead
    s.interval.tick).takeCompletionsLevel

theorem CompletionQueue.agedAt_eq (now : Word) (records : List Posted) (watermark ageLimit : Nat) (headAged : Bool) :
    CompletionQueue.agedAt now ⟨records, watermark, ageLimit, headAged⟩ = (match records with
      | h :: _ => decide (ageLimit ≠ 0) && decide (ageLimit ≤ (now - h.stamp).toNat)
      | [] => false) := by
  cases records <;> rfl

theorem limitsSet_eq {s : State} {watermark ageLimit : Nat} {aged : Bool}
    (h : CompletionQueue.agedAt s.interval.tick ⟨s.completions.records, watermark, ageLimit, s.completions.headAged⟩ = aged) :
    s.limitsSet watermark ageLimit =
      ({ s with completions := ⟨s.completions.records, watermark, ageLimit, aged⟩ }).levelSet 0x0001
        (decide (watermark ≤ s.completions.records.length) ||
          (!s.completions.records.isEmpty && decide (ageLimit ≠ 0) && aged)) := by
  subst h
  rfl

/-- The rule of SET_COMPLETION_NOTICE: the checks, then the two limits (R134, R135). -/
theorem reqSetCompletionNotice_eq (p : List Byte) (s : State) : reqSetCompletionNotice p s =
    checked gateReady (decide (p.length = 2)) (decide (1 ≤ (byteAt p 0).toNat ∧ (byteAt p 0).toNat ≤ 32))
      (fun s => accept (s.limitsSet (byteAt p 0).toNat (byteAt p 1).toNat)) s := rfl

/-- Settles O26: the refusals are the shared checks, and the level is that of the queue with its new limits. -/
theorem setCompletionNoticeEffect : Obligations.SetCompletionNoticeEffect := by
  refine ⟨?_, fun _ => rfl, fun w a s hs low high => ?_⟩
  · exact refusesBadForms_of (req := reqSetCompletionNotice) (l := fun p => decide (p.length = 2))
      (f := fun p => decide (1 ≤ (byteAt p 0).toNat ∧ (byteAt p 0).toNat ≤ 32)) (fun _ _ => rfl)
      (fun p s => ⟨_, reqSetCompletionNotice_eq p s⟩) (fun _ => decide_eq_true_iff) fun _ _ => decide_eq_true_iff
  · have limits : reqSetCompletionNotice [w, a] (s.taken 0x19 [w, a]) =
        acceptWith [] ((s.taken 0x19 [w, a]).limitsSet w.toNat a.toNat) := by
      rw [reqSetCompletionNotice_eq]
      exact checked_pass rfl (decide_eq_true ⟨low, high⟩) (gateReady_taken hs _ _)
    rw [exec_accepted (mk := .setCompletionNotice) hs (by simp) rfl (by decide) limits,
      limitsSet_eq (CompletionQueue.agedAt_eq _ _ _ _ _)]
    rfl

/-! ## Nodes -/

/-- Whether an exchange is in flight for the head of a node's queue (R103). -/
def State.headInFlight (s : State) (n : NodeId) : Bool :=
  match s.table.head n with
  | some o => s.orderInFlight o
  | none => false

theorem OrderTable.head_of_nil {t : OrderTable} {n : NodeId} (h : t.queue n = []) : t.head n = none := by
  unfold OrderTable.head
  rw [h]

theorem OrderTable.head_of_head? {t : OrderTable} {n : NodeId} {tag : Byte} (h : (t.queue n).head? = some tag) :
    t.head n = t.find tag := by
  unfold OrderTable.head
  cases q : t.queue n with
  | nil => rw [q] at h; cases h
  | cons u rest => rw [q] at h; cases h; rfl

theorem headInFlight_of_nil {s : State} {n : NodeId} (h : s.table.queue n = []) : s.headInFlight n = false := by
  unfold State.headInFlight
  rw [OrderTable.head_of_nil h]

theorem headInFlight_iff {s : State} {n : NodeId} {tag : Byte} {o : Order} (h : (s.table.queue n).head? = some tag)
    (found : s.table.find tag = some o) (own : o.node = n) : s.headInFlight n = true ↔ s.busy (trunkOf n) tag := by
  unfold State.headInFlight
  rw [OrderTable.head_of_head? h, found, ← own, ← (OrderTable.find_some found).2]
  exact orderInFlight_iff s o

theorem nodePayload_eq (s : State) (n : NodeId) : nodePayload s n =
    [byteOf n.val, s.nodes[n].state.code, (if s.nodes[n].seqBit then 1 else 0), byteOf s.nodes[n].consecutive] ++
      leNat s.nodes[n].total ++ leWord s.nodes[n].lastExchange ++
      [if s.nodeScheds[n].expiry = none then 0 else if s.nodeScheds[n].inForce then 2 else 1] ++
      leWord (s.nodeScheds[n].expiry.getD 0) ++
      [byteOf (s.table.queue n).length, (s.table.queue n).headD 0, flagByte (s.headInFlight n),
       byteOf (s.table.live.filter fun o => decide (o.node = n ∧ o.state = .filling)).length] := by
  unfold nodePayload backoffCode State.headInFlight
  simp only [Option.isNone_iff_eq_none, Bool.decide_and]
  rfl

/-- Settles O29: the payload of the node's record and its orders. -/
theorem readNodeAnswer : Obligations.ReadNodeAnswer := by
  refine ⟨rfl, nodeRequest_refusesBadForms fun _ _ => rfl, fun n s hs => ⟨flagByte (s.headInFlight n), ?_, ?_, ?_⟩⟩
  · intro empty
    rw [headInFlight_of_nil empty]
    rfl
  · intro tag o head found own
    have inFlight := headInFlight_iff head found own
    exact ⟨fun busy => by rw [inFlight.2 busy]; rfl, fun free => by rw [Bool.eq_false_iff.2 (mt inFlight.1 free)]; rfl⟩
  · have read := exec_accepted (mk := .readNode) (req := reqReadNode) hs (by simp) rfl (by decide)
      (nodeRequest_taken hs 0x20 n fun n s => acceptWith (nodePayload s n) s)
    rw [nodePayload_eq] at read
    exact read

/-- Settles O30: by the state of the node. -/
theorem nodeReturnsToService : Obligations.NodeReturnsToService := by
  refine ⟨nodeRequest_refusesBadForms fun _ _ => rfl, nodeRequest_refusesBadForms fun _ _ => rfl, fun n s hs => ?_⟩
  have enable : reqEnableNode [byteOf n.val] (s.taken 0x21 [byteOf n.val]) = _ := nodeRequest_taken hs 0x21 n _
  have restore : reqRestoreNode [byteOf n.val] (s.taken 0x23 [byteOf n.val]) = _ := nodeRequest_taken hs 0x23 n _
  have state (k : Byte) (p : List Byte) : (s.taken k p).nodes[n].state = s.nodes[n].state := rfl
  refine ⟨fun h => ?_, fun h => ?_, fun h => ?_, fun h => ?_⟩
  · refine exec_accepted (mk := .enableNode) (req := reqEnableNode) hs (by simp) rfl (by decide) (enable.trans ?_)
    simp only [state, h]
    rfl
  · refine exec_refused (mk := .enableNode) (req := reqEnableNode) hs (by simp) rfl (by decide) (enable.trans ?_)
    simp only [state]
    split
    · exact absurd ‹_› h
    all_goals rfl
  · refine exec_accepted (mk := .restoreNode) (req := reqRestoreNode) hs (by simp) rfl (by decide) (restore.trans ?_)
    simp only [state, h]
    rfl
  · refine exec_refused (mk := .restoreNode) (req := reqRestoreNode) hs (by simp) rfl (by decide) (restore.trans ?_)
    simp only [state]
    split
    · exact absurd ‹_› h
    all_goals rfl

end Sys2Proof.Machine
end

section
/-! PROOFS. The requests of the trunks, the intervals and the reports (chapters 6 and 9) that change no order. -/

namespace Sys2Proof.Machine

open Sys2Proof

/-! ## Own conditions, in their order -/

theorem firstOf_holds {b : Bool} (h : b = true) (o : OutcomeCode) (l : List (Bool × OutcomeCode)) (body : State → Answer)
    (s : State) : firstOf ((b, o) :: l) body s = refuse o s := by
  subst h
  rfl

theorem firstOf_fails {b : Bool} (h : b = false) (o : OutcomeCode) (l : List (Bool × OutcomeCode)) (body : State → Answer)
    (s : State) : firstOf ((b, o) :: l) body s = firstOf l body s := by
  subst h
  rfl

theorem firstOf_nil (body : State → Answer) (s : State) : firstOf [] body s = body s := rfl

/-! ## A control field in a byte -/

theorem setWidth_eq_byteOf {w : Nat} (v : BitVec w) : v.setWidth 8 = byteOf v.toNat := by
  apply BitVec.eq_of_toNat_eq
  simp [byteOf]

theorem toNat_eq_one (b : Byte) : b.toNat = 1 ↔ b = 1 := BitVec.toNat_inj (y := 1#8)

theorem flagByte_not_none {α : Type} (x : Option α) [Decidable (x = none)] :
    flagByte x.isSome = if x = none then 0 else 1 := by
  cases x <;> simp [flagByte]

/-! ## SET_TRUNK and READ_TRUNK -/

/-- The ranges of bytes 1 to 11 (6.7). -/
theorem configFieldsOk_iff (p : List Byte) : configFieldsOk p = true ↔
    (byteAt p 1).toNat ≤ 3 ∧ 5 ≤ (byteAt p 2).toNat ∧ (1 ≤ (byteAt p 3).toNat ∧ (byteAt p 3).toNat ≤ 15) ∧
      (byteAt p 4).toNat ≤ 3 ∧ (1 ≤ (byteAt p 5).toNat ∧ (byteAt p 5).toNat ≤ 7) ∧
      (1 ≤ (byteAt p 6).toNat ∧ (byteAt p 6).toNat ≤ 8) ∧ (2 ≤ (byteAt p 7).toNat ∧ (byteAt p 7).toNat ≤ 15) ∧
      (byteAt p 8).toNat ≤ 7 ∧ (byteAt p 9).toNat ≤ 15 ∧ (byteAt p 10).toNat ≤ 1 ∧ (byteAt p 11).toNat ≤ 15 := by
  simp only [configFieldsOk, Bool.and_eq_true, decide_eq_true_eq, and_assoc]

/-- Settles O32: the ranges are those of 6.7, and the record is that of the payload. -/
theorem setTrunkEffect : Obligations.SetTrunkEffect := by
  refine ⟨trunkRequest_refusesBadForms (fieldsOk := configFieldsOk) (fun _ _ => rfl)
    fun p => and_congr_right' (configFieldsOk_iff p), fun p t s hs long range named => ?_⟩
  have short : p.length ≤ 200 := by omega
  have body := trunkRequest_taken hs 0x28 long ((configFieldsOk_iff p).2 range.2) named fun t s =>
    firstOf [(decide (s.trunks[t].state ≠ .disabled), .wrongState)]
      (fun s => accept (s.modTrunk t fun c => { c with config := configOf p })) s
  refine ⟨fun running => ?_, fun disabled => ?_⟩
  · refine exec_refused (mk := .setTrunk) (req := reqSetTrunk) hs short rfl (by decide) (body.trans ?_)
    exact firstOf_holds (decide_eq_true running) _ _ _ _
  · have run := exec_accepted (mk := .setTrunk) (req := reqSetTrunk) hs short rfl (by decide)
      (body.trans (firstOf_fails (decide_eq_false (not_not_intro disabled)) _ _ _ _))
    simp only [configOf, ← toNat_eq_one] at run
    exact run

theorem trunkPayload_eq (s : State) (t : TrunkId) : trunkPayload s t =
    [byteOf t.val, s.trunks[t].state.code, s.trunks[t].wait.code, (if s.engines[t].exch = none then 0 else 1)] ++
      [byteOf s.trunks[t].config.rate, byteOf s.trunks[t].config.pollPeriod, byteOf s.trunks[t].config.replyTimeout,
       byteOf s.trunks[t].config.retryLimit, byteOf s.trunks[t].config.isolation, byteOf s.trunks[t].config.burstLimit,
       byteOf s.trunks[t].config.guardLimit,
       byteOf ((if s.trunks[t].config.rotateU then 1 else 0) + (if s.trunks[t].config.rotateR then 2 else 0) +
         (if s.trunks[t].config.rotateP then 4 else 0)),
       byteOf s.trunks[t].config.quietLimit, (if s.trunks[t].config.peakMode = .held then 1 else 0),
       byteOf s.trunks[t].config.degradeLimit] ++
      [byteOf s.trunks[t].mode.toNat, (if s.supplies[t].supplyLow then 1 else 0),
       (if s.notices.faultSeen[t] then 1 else 0), byteOf s.trunks[t].idleCount,
       byteOf (s.table.live.filter fun o => decide (trunkOf o.node = t)).length,
       byteOf (s.table.live.filter fun o => decide (trunkOf o.node = t ∧ o.state = .queued)).length] := by
  have peak (m : PeakMode) : (match m with | .interval => (0 : Byte) | .held => 1) = if m = .held then 1 else 0 := by
    cases m <;> rfl
  unfold trunkPayload TrunkConfig.encode State.trunkInFlight State.liveOrders State.currentBacklog
  simp only [flagByte_not_none, flagBits_eq_sum, setWidth_eq_byteOf, ← peak, Bool.decide_and]
  rfl

/-- Settles O33: the payload of the trunk's registers. -/
theorem readTrunkAnswer : Obligations.ReadTrunkAnswer := by
  refine ⟨rfl, trunkOnlyRequest_refusesBadForms fun _ _ => rfl, fun t s hs => ?_⟩
  have read := exec_accepted (mk := .readTrunk) (req := reqReadTrunk) hs (by simp) rfl (by decide)
    (trunkOnlyRequest_taken hs 0x29 t fun t s => acceptWith (trunkPayload s t) s)
  rw [trunkPayload_eq] at read
  exact read

/-! ## READ_REPORT -/

theorem Report.encode_eq (r : Report) : r.encode =
    [byteOf r.sequence.toNat, r.state.code,
      byteOf ((if r.wasDown then 1 else 0) + (if r.wasQuiet then 2 else 0) + (if r.short then 4 else 0)),
      byteOf r.faultClass, byteOf r.severe, byteOf r.peak] ++ leWord r.endStamp ++ leNat r.span ++
      leNat r.counts.started ++ leNat r.counts.good ++ leNat r.counts.noStart ++ leNat r.counts.broken ++
      leNat r.counts.stray ++ leNat r.counts.busy ++ leNat r.counts.retries ++ leNat r.counts.isolations ++
      leNat r.counts.ordersDone ++ leNat r.counts.ordersOther ++
      [byteOf r.counts.bytesMoved, byteOf (r.counts.bytesMoved / 256), byteOf (r.counts.bytesMoved / 65536)] := by
  unfold Report.encode leNat3
  rw [flagBits_eq_sum, setWidth_eq_byteOf]

/-- Settles O37: by the place in the ring. -/
theorem readReportAnswer : Obligations.ReadReportAnswer := by
  refine ⟨trunkRequest_refusesBadForms (fieldsOk := fun p => decide ((byteAt p 1).toNat ≤ 3)) (fun _ _ => rfl)
    fun p => and_congr_right' decide_eq_true_iff, fun t back s hs range => ?_⟩
  have body : reqReadReport [byteOf t.val, back] (s.taken 0x30 [byteOf t.val, back]) = _ :=
    trunkRequest_taken hs 0x30 rfl (decide_eq_true range) rfl _
  have ring : (s.taken 0x30 [byteOf t.val, back]).meters[t].ring[back.toNat]? = s.meters[t].ring[back.toNat]? := rfl
  refine ⟨fun missing => ?_, fun r stored => ?_⟩
  · refine exec_refused (mk := .readReport) hs (by simp) rfl (by decide) (body.trans ?_)
    split
    · rename_i r stored
      exact absurd (ring.symm.trans stored) (by rw [List.getElem?_eq_none (by omega)]; exact nofun)
    · rfl
  · have read : reqReadReport [byteOf t.val, back] (s.taken 0x30 [byteOf t.val, back]) =
        acceptWith ([byteOf t.val, byteOf s.meters[t].ring.length] ++ r.encode) (s.taken 0x30 [byteOf t.val, back]) := by
      refine body.trans ?_
      split
      · rename_i found
        rw [Option.some.inj (stored.symm.trans (ring.symm.trans found))]
        rfl
      · rename_i none
        exact absurd (stored.symm.trans (ring.symm.trans none)) nofun
    rw [exec_accepted (mk := .readReport) hs (by simp) rfl (by decide) read, Report.encode_eq]
    rfl

/-! ## SET_INTERVAL, RESET_PEAK and the interval end -/

theorem reqSetInterval_eq (p : List Byte) (s : State) : reqSetInterval p s =
    checked gateReady (decide (p.length = 2)) (decide (100 ≤ (wordAt p 0).toNat ∧ (wordAt p 0).toNat ≤ 6000))
      (fun s => accept (s.modInterval fun i => { i with pendingLength := some (wordAt p 0).toNat })) s := rfl

/-- Settles O38: the two registers written. -/
theorem setIntervalAndResetPeakEffect : Obligations.SetIntervalAndResetPeakEffect := by
  refine ⟨?_, trunkOnlyRequest_refusesBadForms fun _ _ => rfl, fun lo hi s hs low high => ?_, fun t s hs => ?_⟩
  · refine refusesBadForms_of (req := reqSetInterval) (l := fun p => decide (p.length = 2)) (fun _ _ => rfl)
      (fun p s => ⟨_, reqSetInterval_eq p s⟩) (fun _ => decide_eq_true_iff) fun p _ => ?_
    rw [wordAt_toNat]
    exact decide_eq_true_iff
  · have written : reqSetInterval [lo, hi] (s.taken 0x31 [lo, hi]) = acceptWith []
        ((s.taken 0x31 [lo, hi]).modInterval fun i => { i with pendingLength := some (pairAt [lo, hi] 0) }) := by
      rw [reqSetInterval_eq, wordAt_toNat]
      exact checked_pass rfl (decide_eq_true ⟨low, high⟩) (gateReady_taken hs _ _)
    rw [exec_accepted (mk := .setInterval) hs (by simp) rfl (by decide) written]
    rfl
  · rw [exec_accepted (mk := .resetPeak) (req := reqResetPeak) hs (by simp) rfl (by decide)
      (trunkOnlyRequest_taken hs 0x33 t fun t s =>
        acceptWith [byteOf s.meters[t].peak] (s.modMeter t fun m => { m with peak := s.currentBacklog t }))]
    unfold State.currentBacklog
    simp only [Bool.decide_and]
    rfl

theorem takeClaim_absent {c : TickClaim} {s : State} (h : c ∉ s.claims) : s.takeClaim c = s := if_neg h

theorem takeClaim_present {c : TickClaim} {s : State} (h : c ∈ s.claims) :
    s.takeClaim c = ({ s with claims := s.claims.erase c }).applyClaim c := if_pos h

theorem whenReady_ready {s : State} (h : s.startUp.part = .ready) (f : State → State) : whenReady f s = f s := if_pos h

/-- Settles O39: the request closes the interval at its position, and the claim advances or closes it. -/
theorem intervalEndMadeBySyncOrTick : Obligations.IntervalEndMadeBySyncOrTick := by
  refine ⟨refusesBadForms_of (req := reqSyncInterval) (fun _ _ => rfl) (fun _ _ => ⟨_, rfl⟩) (fun _ => List.isEmpty_iff)
    (fun _ _ => by simp), fun s hs => ?_, fun s ready => ?_⟩
  · exact exec_accepted (mk := .syncInterval) (req := reqSyncInterval) hs (by simp) rfl (by decide)
      (checked_pass rfl rfl (gateReady_taken hs _ _))
  · have run : exec .intervalEnd s = .next (s.takeClaim .intervalEnd) := congrArg _ (whenReady_ready ready _)
    rw [run]
    refine ⟨fun absent => by rw [takeClaim_absent absent], fun present => ?_⟩
    rw [takeClaim_present present]
    exact ⟨fun last => congrArg _ (if_neg (by simpa using last)), fun inside => congrArg _ (if_pos inside)⟩

/-! ## ENABLE_TRUNK -/

theorem NodeRecord.unseenAgain_eq (r : NodeRecord) :
    r.unseenAgain = if r.state = .online then { r with state := .unseen } else r := by
  unfold NodeRecord.unseenAgain
  split <;> rfl

/-- Settles O34: the entry to ACTIVE with the power switched on. -/
theorem enableTrunkEffect : Obligations.EnableTrunkEffect := by
  refine ⟨trunkOnlyRequest_refusesBadForms fun _ _ => rfl, fun t s hs => ?_⟩
  have body := trunkOnlyRequest_taken hs 0x2A t fun t s =>
    firstOf [(decide (s.trunks[t].state ≠ .disabled), .wrongState)]
      (fun s => accept ((s.modSupply t SupplyMonitor.start).enterActive t .settle)) s
  refine ⟨fun running => ?_, fun disabled => ?_⟩
  · refine exec_refused (mk := .enableTrunk) (req := reqEnableTrunk) hs (by simp) rfl (by decide) (body.trans ?_)
    exact firstOf_holds (decide_eq_true running) _ _ _ _
  · have run := exec_accepted (mk := .enableTrunk) (req := reqEnableTrunk) hs (by simp) rfl (by decide)
      (body.trans (firstOf_fails (decide_eq_false (not_not_intro disabled)) _ _ _ _))
    rw [State.enterActive_eq] at run
    refine ⟨_, run, rfl, ?_, ?_, ?_, fun m other => ⟨?_, ?_, ?_⟩, fun n => ?_, rfl⟩
    · exact upd_same s.trunks t _
    · exact upd_same s.supplies t _
    · exact upd_same s.scheds t _
    · exact upd_other s.trunks t m _ other
    · exact upd_other s.supplies t m _ other
    · exact upd_other s.scheds t m _ other
    · refine (trunkNodes_upd_get _ t s.nodes n).trans ?_
      rw [NodeRecord.unseenAgain_eq, ← ite_and]

/-! ## SET_MODE_CODE -/

theorem setModeCode_eq (broadcast : Bool) (p : List Byte) (s : State) : setModeCode broadcast p s =
    checked gateReady (decide (p.length = 2)) (decide ((byteAt p 0).toNat ≤ 3) && decide ((byteAt p 1).toNat ≤ 63))
      (fun s => accept (forAll (State.writeMode ((byteAt p 1).setWidth 6)) (modeTrunks broadcast (byteAt p 0)) s)) s := rfl

theorem setModeCode_taken {s : State} (hs : s.serves) {selector code : Byte} (trunks : selector.toNat ≤ 3)
    (range : code.toNat ≤ 63) : reqSetModeCode [selector, code] (s.taken 0x2C [selector, code]) =
      acceptWith [] (forAll (State.writeMode (code.setWidth 6)) (modeTrunks false selector)
        (s.taken 0x2C [selector, code])) :=
  (setModeCode_eq false [selector, code] _).trans
    (checked_pass rfl (by simpa [byteAt] using And.intro trunks range) (gateReady_taken hs _ _))

/-- Settles O36: the selected trunks in turn, and the three branches of a code written. -/
theorem setModeCodeEffect : Obligations.SetModeCodeEffect := by
  refine ⟨?_, fun code s hs range => ⟨fun t => ?_, ?_⟩, fun code t s => ⟨fun same => ?_, fun new fresh running => ?_,
    fun new idle => ?_⟩⟩
  · exact refusesBadForms_of (req := reqSetModeCode) (l := fun p => decide (p.length = 2)) (fun _ _ => rfl)
      (fun p s => ⟨_, setModeCode_eq false p s⟩) (fun _ => decide_eq_true_iff) fun _ _ => by
        rw [Bool.and_eq_true_iff, decide_eq_true_iff, decide_eq_true_iff]
  · have inRange : (byteOf t.val).toNat ≤ 3 := ((trunkOfByte_isSome _).1 (by simp)).trans (by decide)
    have selected : modeTrunks false (byteOf t.val) = [t] := by
      unfold modeTrunks
      rw [trunkOfByte_byteOf]
      rfl
    have run := exec_accepted (mk := .setModeCode) hs (by simp) rfl (by decide) (setModeCode_taken hs inRange range)
    rw [selected] at run
    exact run
  · exact exec_accepted (mk := .setModeCode) hs (by simp) rfl (by decide)
      (setModeCode_taken (selector := 3) hs (by decide) range)
  · exact if_pos same
  · exact (if_neg new).trans (if_pos ⟨fresh, running⟩)
  · refine (if_neg new).trans (if_neg fun c => ?_)
    exact idle.elim (fun off => c.1 off) fun out => out c.2

end Sys2Proof.Machine
end

section
/-! PROOFS. DISABLE_NODE and DISABLE_TRUNK, which end orders, and the requests READ_ORDER, READ_FETCHED and RETIRE_ORDER. -/

namespace Sys2Proof.Machine

open Sys2Proof

/-! ## A claim on an order -/

theorem endOrMark_ends {m : Mark} {tag : Byte} {s : State} {o : Order} (found : s.table.find tag = some o)
    (h : o.state = .filling ∨ o.state = .queued ∨ (o.state = .active ∧ s.orderInFlight o = false)) :
    s.endOrMark m tag = s.endOrder tag m.result 0 := by
  unfold State.endOrMark
  rw [found]
  rcases h with h | h | ⟨h, idle⟩ <;> simp only [h]
  rw [idle]
  rfl

theorem endOrMark_marks {m : Mark} {tag : Byte} {s : State} {o : Order} (found : s.table.find tag = some o)
    (active : o.state = .active) (busy : s.orderInFlight o = true) : s.endOrMark m tag =
      s.modTable (OrderTable.update tag fun o => { o with mark := if o.mark = none then some m else o.mark }) := by
  unfold State.endOrMark
  rw [found]
  simp only [active, busy, if_true]

theorem endOrMark_ended {m : Mark} {tag : Byte} {s : State} {o : Order} (found : s.table.find tag = some o)
    (h : o.state = .ended ∨ o.state = .parked) : s.endOrMark m tag = s := by
  unfold State.endOrMark
  rw [found]
  rcases h with h | h <;> simp only [h]

/-! ## DISABLE_NODE -/

/-- DISABLE_NODE of a node that is not disabled: its orders end or are marked, head first (R101, R25). -/
def State.nodeDisabled (n : NodeId) (s : State) : State :=
  forAll (State.endOrMark .cancel) (s.table.queue n) (s.modNode n fun r => { r with state := .disabled })

theorem reqDisableNode_taken {s : State} (hs : s.serves) (n : NodeId) :
    reqDisableNode [byteOf n.val] (s.taken 0x22 [byteOf n.val]) =
      if s.nodes[n].state = .disabled then acceptWith [] (s.taken 0x22 [byteOf n.val])
      else acceptWith [] ((s.taken 0x22 [byteOf n.val]).nodeDisabled n) := by
  have body : reqDisableNode [byteOf n.val] (s.taken 0x22 [byteOf n.val]) = _ := nodeRequest_taken hs 0x22 n _
  rw [body, taken_nodes]
  cases s.nodes[n].state <;> rfl

theorem nodeDisabled_frame (n : NodeId) (s : State) :
    OrderFrame (s.modNode n fun r => { r with state := .disabled }) (s.nodeDisabled n) :=
  OrderFrame.forAll _ (OrderFrame.endOrMark .cancel) _ _

/-- Settles O31: the node's record, and the claim on each order of its queue. -/
theorem disableNodeEffect : Obligations.DisableNodeEffect := by
  refine ⟨nodeRequest_refusesBadForms fun _ _ => rfl, fun n s hs => ⟨fun disabled => ?_, fun enabled => ?_⟩, ?_⟩
  · have body := reqDisableNode_taken hs n
    rw [if_pos disabled] at body
    exact exec_accepted (mk := .disableNode) hs (by simp) rfl (by decide) body
  · have body := reqDisableNode_taken hs n
    rw [if_neg enabled] at body
    have frame := nodeDisabled_frame n (s.taken 0x22 [byteOf n.val])
    refine ⟨_, exec_accepted (mk := .disableNode) hs (by simp) rfl (by decide) body, rfl, ?_, fun m other => ?_,
      frame.nodeScheds, frame.engines, frame.trunks⟩
    · exact (congrArg (fun v : Vector NodeRecord 24 => v[n]) frame.nodes).trans (upd_same s.nodes n _)
    · exact (congrArg (fun v : Vector NodeRecord 24 => v[m]) frame.nodes).trans (upd_other s.nodes n m _ other)
  · intro m tag s o found
    have busy : s.orderInFlight o = true ↔ s.busy (trunkOf o.node) tag := by
      rw [← (OrderTable.find_some found).2]
      exact orderInFlight_iff s o
    have result : m.result = if m = .cancel then Result.cancelled else .expired := by cases m <;> rfl
    refine ⟨fun h => ?_, fun active inFlight => endOrMark_marks found active (busy.2 inFlight), endOrMark_ended found⟩
    rw [endOrMark_ends found (h.imp_right (Or.imp_right (And.imp_right fun idle => Bool.eq_false_iff.2 (mt busy.1 idle)))),
      result]

/-! ## DISABLE_TRUNK -/

theorem trunkNodes_complete (n : NodeId) : n ∈ trunkNodes (trunkOf n) := by
  revert n
  decide

theorem reqDisableTrunk_running {s : State} (hs : s.serves) {t : TrunkId}
    (running : s.trunks[t].state = .active ∨ s.trunks[t].state = .quiet) :
    reqDisableTrunk [byteOf t.val] (s.taken 0x2B [byteOf t.val]) =
      acceptWith [] ((s.taken 0x2B [byteOf t.val]).disableRunning t) := by
  have body : reqDisableTrunk [byteOf t.val] (s.taken 0x2B [byteOf t.val]) = _ := trunkOnlyRequest_taken hs 0x2B t _
  rw [body, taken_trunks]
  rcases running with running | running <;> rw [running] <;> rfl

theorem reqDisableTrunk_down {s : State} (hs : s.serves) {t : TrunkId} (down : s.trunks[t].state = .down) :
    reqDisableTrunk [byteOf t.val] (s.taken 0x2B [byteOf t.val]) =
      acceptWith [] ((s.taken 0x2B [byteOf t.val]).enterDisabled t) := by
  have body : reqDisableTrunk [byteOf t.val] (s.taken 0x2B [byteOf t.val]) = _ := trunkOnlyRequest_taken hs 0x2B t _
  rw [body, taken_trunks, down]
  rfl

theorem reqDisableTrunk_stopping {s : State} (hs : s.serves) {t : TrunkId} (stopping : s.trunks[t].state = .stopping) :
    reqDisableTrunk [byteOf t.val] (s.taken 0x2B [byteOf t.val]) = refuse .wrongState (s.taken 0x2B [byteOf t.val]) := by
  have body : reqDisableTrunk [byteOf t.val] (s.taken 0x2B [byteOf t.val]) = _ := trunkOnlyRequest_taken hs 0x2B t _
  rw [body, taken_trunks, stopping]

theorem reqDisableTrunk_disabled {s : State} (hs : s.serves) {t : TrunkId} (disabled : s.trunks[t].state = .disabled) :
    reqDisableTrunk [byteOf t.val] (s.taken 0x2B [byteOf t.val]) = acceptWith [] (s.taken 0x2B [byteOf t.val]) := by
  have body : reqDisableTrunk [byteOf t.val] (s.taken 0x2B [byteOf t.val]) = _ := trunkOnlyRequest_taken hs 0x2B t _
  rw [body, taken_trunks, disabled]
  rfl

theorem disableRunning_free {t : TrunkId} {s : State} (free : s.engines[t].exch = none) :
    s.disableRunning t = (forAll (State.endOrMark .cancel) (s.trunkQueueTags t) s).enterDisabled t :=
  if_neg (show ¬ s.engines[t].exch.isSome by rw [free]; exact nofun)

theorem disableRunning_busy {t : TrunkId} {s : State} (busy : s.engines[t].exch ≠ none) :
    s.disableRunning t = (((forAll (State.endOrMark .cancel) (s.trunkQueueTags t) s).modTrunk t fun c =>
      { c with state := .stopping, wait := .none }).modSupply t fun m => { m with settleTimer := false }).modSched t
        fun g => { g with announce := false } :=
  if_pos (Option.isSome_iff_ne_none.2 busy)

/-- Settles O35: by the state of the trunk, and the entry to DISABLED block by block. -/
theorem disableTrunkEffect : Obligations.DisableTrunkEffect := by
  refine ⟨trunkOnlyRequest_refusesBadForms fun _ _ => rfl, ⟨by decide, by decide, by decide, trunkNodes_complete⟩,
    fun t s hs => ?_, fun t s => ?_⟩
  · have accepted {u : State} (h : reqDisableTrunk [byteOf t.val] (s.taken 0x2B [byteOf t.val]) = acceptWith [] u) :
        exec (.disableTrunk [byteOf t.val]) s = .next (u.withReply 0x2B .accepted [] false) :=
      exec_accepted (mk := .disableTrunk) hs (by simp) rfl (by decide) h
    refine ⟨fun h => ?_, fun h => accepted (reqDisableTrunk_disabled hs h), fun h => accepted (reqDisableTrunk_down hs h),
      fun running free => ?_, fun running busy => ?_⟩
    · exact exec_refused (mk := .disableTrunk) hs (by simp) rfl (by decide) (reqDisableTrunk_stopping hs h)
    · rw [accepted (reqDisableTrunk_running hs running),
        disableRunning_free (s := s.taken 0x2B [byteOf t.val]) free]
      rfl
    · rw [accepted (reqDisableTrunk_running hs running),
        disableRunning_busy (s := s.taken 0x2B [byteOf t.val]) busy]
      rfl
  · rw [State.enterDisabled_eq]
    refine ⟨upd_same s.trunks t _, upd_same s.supplies t _, upd_same s.engines t _, upd_same s.scheds t _,
      upd_same s.meters t _, fun m other => ⟨upd_other s.trunks t m _ other, upd_other s.supplies t m _ other,
        upd_other s.engines t m _ other, upd_other s.scheds t m _ other, upd_other s.meters t m _ other⟩,
      fun n => trunkNodes_upd_get _ t s.nodeScheds n, rfl⟩

/-! ## READ_ORDER -/

/-- The place of a first occurrence. -/
theorem idxOf_of_first {α : Type} [DecidableEq α] {a : α} {l : List α} {i : Nat} (at_ : l[i]? = some a)
    (first : a ∉ l.take i) : l.idxOf a = i := by
  induction l generalizing i with
  | nil => cases at_
  | cons b l ih =>
    cases i with
    | zero => rw [Option.some.inj at_, List.idxOf_cons_self]
    | succ i =>
      obtain ⟨other, rest⟩ := not_or.1 (mt List.mem_cons.2 first)
      rw [List.idxOf_cons_ne l (Ne.symm other), ih at_ rest]

theorem queuePlace_absent {s : State} {o : Order} (h : o.tag ∉ s.table.queue o.node) : queuePlace s o = 255 := if_neg h

theorem queuePlace_first {s : State} {o : Order} {i : Nat} (at_ : (s.table.queue o.node)[i]? = some o.tag)
    (first : o.tag ∉ (s.table.queue o.node).take i) : queuePlace s o = byteOf i := by
  unfold queuePlace
  rw [if_pos (List.mem_of_getElem? at_), idxOf_of_first at_ first]

theorem unended_iff (q : OrderState) : q.unended = true ↔ q = .filling ∨ q = .queued ∨ q = .active := by
  cases q <;> simp [OrderState.unended]

theorem deadlineRemaining_zero {s : State} {o : Order} (h : o.state.unended = false ∨ o.deadline = none) :
    deadlineRemaining s o = 0 := by
  unfold deadlineRemaining
  rcases h with h | h
  · split
    · rfl
    · rw [h]
      rfl
  · rw [h]

theorem deadlineRemaining_left {s : State} {o : Order} {d : Nat} (open_ : o.state.unended = true)
    (deadline : o.deadline = some d) (left : (s.interval.tick - o.accepted).toNat ≤ d) :
    deadlineRemaining s o = BitVec.ofNat 16 (d - (s.interval.tick - o.accepted).toNat) := by
  unfold deadlineRemaining
  rw [deadline]
  exact (if_pos open_).trans (if_pos left)

/-- The result byte of READ_ORDER (R27). -/
def Order.resultByte (o : Order) : Byte :=
  if o.state.unended then 0 else match o.result with | some r => r.code | none => 0

/-- Settles O21: each free byte of the layout by the function that gives it. -/
theorem readOrderAnswer : Obligations.ReadOrderAnswer := by
  refine ⟨rfl, rfl, rfl, rfl, fun _ => rfl, leNat_eq, tagRequest_refusesBadForms fun _ _ => rfl, fun tag s hs named => ?_⟩
  refine ⟨fun absent => exec_refused (mk := .readOrder) (req := reqReadOrder) hs (by simp) rfl (by decide)
    (tagRequest_absent hs 0x14 named absent _), fun o found => ?_⟩
  obtain rfl : o.tag = tag := (OrderTable.find_some found).2
  have busy := orderInFlight_iff s o
  have open_ := unended_iff o.state
  refine ⟨deadlineRemaining s o, queuePlace s o, o.resultByte, if o.state.unended then 0 else o.endStamp,
    flagByte (s.orderInFlight o), fun h => ?_, fun d unended deadline => deadlineRemaining_left (open_.2 unended) deadline,
    queuePlace_absent, fun i => queuePlace_first, fun h => ?_, fun h => ?_, fun h => ?_, fun h => ?_, ?_⟩
  · exact deadlineRemaining_zero (h.imp_left fun h => Bool.eq_false_iff.2 (mt open_.1 h))
  · exact ⟨if_pos (open_.2 h), if_pos (open_.2 h)⟩
  · refine ⟨if_neg (mt open_.1 h), fun r result => ?_⟩
    unfold Order.resultByte
    rw [if_neg (mt open_.1 h), result]
  · rw [busy.2 h]
    rfl
  · rw [Bool.eq_false_iff.2 (mt busy.1 h)]
    rfl
  · exact exec_accepted (mk := .readOrder) (req := reqReadOrder) hs (by simp) rfl (by decide)
      (tagRequest_found hs 0x14 named found fun o s => acceptWith (orderPayload s o) s)

/-! ## RETIRE_ORDER -/

theorem OrderTable.find_release (t : OrderTable) (tag u : Byte) :
    (t.release tag).find u = if u = tag then none else t.find u := by
  unfold OrderTable.find
  rw [live_release, List.find?_filter]
  by_cases e : u = tag
  · rw [if_pos e, List.find?_eq_none]
    intro o _
    simp [e]
  · rw [if_neg e]
    congr 1
    funext o
    by_cases h : o.tag = u
    · subst h
      simp [e]
    · simp [h]

theorem SegmentPool.mem_freeList_freeAll (l : List SegId) (p : SegmentPool) (g : SegId) :
    g ∈ (p.freeAll l).freeList ↔ g ∈ p.freeList ∨ g ∈ l := by
  induction l generalizing p with
  | nil => simp [freeAll]
  | cons h l ih =>
    have step : g ∈ ((p.freeSegment h).freeAll l).freeList ↔ _ := ih (p.freeSegment h)
    refine step.trans ?_
    rw [((p.freeSegment_segs h).1 g).2, List.mem_cons]
    tauto

theorem SegmentPool.freeAll_mem (l : List SegId) (p : SegmentPool) : (p.freeAll l).mem = p.mem := by
  induction l generalizing p with
  | nil => rfl
  | cons h l ih => exact (ih (p.freeSegment h)).trans (p.freeSegment_segs h).2

/-- Settles O23: by the state of the order. -/
theorem retireOrderEffect : Obligations.RetireOrderEffect := by
  refine ⟨tagRequest_refusesBadForms fun _ _ => rfl, fun tag s hs named => ?_⟩
  refine ⟨fun absent => exec_refused (mk := .retireOrder) (req := reqRetireOrder) hs (by simp) rfl (by decide)
    (tagRequest_absent hs 0x16 named absent _), fun o found => ⟨fun other => ?_, fun parked => ?_⟩⟩
  · refine exec_refused (mk := .retireOrder) (req := reqRetireOrder) hs (by simp) rfl (by decide)
      ((tagRequest_found hs 0x16 named found _).trans ?_)
    split
    · exact absurd ‹_› other
    all_goals rfl
  · have retired : reqRetireOrder [tag] (s.taken 0x16 [tag]) = _ := tagRequest_found hs 0x16 named found _
    obtain rfl : o.tag = tag := (OrderTable.find_some found).2
    simp only [parked] at retired
    refine ⟨_, exec_accepted (mk := .retireOrder) (req := reqRetireOrder) hs (by simp) rfl (by decide) retired, rfl,
      ?_, fun u other => ?_, rfl, rfl, SegmentPool.freeAll_seg o.chain s.pool,
      SegmentPool.mem_freeList_freeAll o.chain s.pool, SegmentPool.freeAll_mem o.chain s.pool, rfl⟩
    · exact (OrderTable.find_release s.table o.tag o.tag).trans (if_pos rfl)
    · exact (OrderTable.find_release s.table o.tag u).trans (if_neg other)

end Sys2Proof.Machine
end

section
/-! PROOFS. READ_FETCHED and FILL_ORDER, which name data positions of an order (R32, R34 to R36, R44, R45), and CANCEL_ORDER. -/

namespace Sys2Proof.Machine

open Sys2Proof

/-! ## A two-byte field read back -/

theorem wordOfBytes (w : Word) : (w >>> 8).setWidth 8 ++ w.setWidth 8 = w := by
  apply BitVec.eq_of_getLsbD_eq
  intro i hi
  rw [BitVec.getLsbD_append]
  by_cases low : i < 8
  · simp [low]
  · have high : i - 8 < 8 := by omega
    have sum : 8 + (i - 8) = i := by omega
    simp [low, high, sum]

theorem wordAt_of_leWord (w : Word) (a : List Byte) (b : List Byte) : wordAt (a ++ leWord w ++ b) a.length = w := by
  have low : byteAt (a ++ leWord w ++ b) a.length = w.setWidth 8 := by simp [byteAt, leWord]
  have high : byteAt (a ++ leWord w ++ b) (a.length + 1) = (w >>> 8).setWidth 8 := by simp [byteAt, leWord]
  rw [wordAt, low, high, wordOfBytes]

/-! ## Data positions (R32) -/

/-- A data position that a side reaches for an order (R33). -/
def SegmentPool.Reached (p : SegmentPool) (side : Owner) (tag : Byte) (chain : List SegId) (pos : Nat) : Prop :=
  ∃ g, chain[pos / 256]? = some g ∧ (p.seg g).owner = side ∧ (p.seg g).tag = some tag

theorem SegmentPool.reaches_iff (p : SegmentPool) (side : Owner) (tag : Byte) (g : SegId) :
    p.reaches side tag g = true ↔ (p.seg g).owner = side ∧ (p.seg g).tag = some tag := by
  simp [SegmentPool.reaches]

theorem SegmentPool.positionReached_iff (p : SegmentPool) (side : Owner) (tag : Byte) (chain : List SegId) (pos : Nat) :
    p.positionReached side tag chain pos = true ↔ p.Reached side tag chain pos := by
  unfold SegmentPool.positionReached SegmentPool.Reached
  show (match chain[pos / 256]? with | some g => p.reaches side tag g | none => false) = true ↔ _
  cases chain[pos / 256]? with
  | none => simp
  | some g => simp [SegmentPool.reaches_iff]

/-- A position of the chain has an address, and its byte stands there. -/
theorem SegmentPool.dataByte_eq {p : SegmentPool} {chain : List SegId} {pos : Nat} {g : SegId} (h : chain[pos / 256]? = some g) :
    dataAddress chain pos = some (256 * g.val + pos % 256) ∧
      p.dataByte chain pos = Memory.read p.mem (256 * g.val + pos % 256) := by
  unfold dataAddress SegmentPool.dataByte
  rw [h]
  exact ⟨rfl, rfl⟩

/-! ## READ_FETCHED -/

/-- The tests of READ_FETCHED in their order (R44). -/
def fetchedTests (o : Order) (tag : Byte) (offset n : Nat) (s : State) : List (Bool × OutcomeCode) :=
  [(decide (o.kind ≠ .bulkFetch) || !(decide (o.state = .active) || decide (o.state = .parked)), .wrongState),
   ((List.range n).any fun i => !s.pool.positionReached .hostSide tag o.chain (offset + i), .notOwned),
   (decide (o.progress < offset + n), .overrun)]

theorem reqReadFetched_eq (p : List Byte) (s : State) : reqReadFetched p s =
    checked gateReady (decide (p.length = 4))
      (decide (byteAt p 0 ≠ 0) && decide (1 ≤ (byteAt p 3).toNat ∧ (byteAt p 3).toNat ≤ 192) &&
        decide ((wordAt p 1).toNat ≤ 2047))
      (withOrder (byteAt p 0) fun o s =>
        firstOf (fetchedTests o (byteAt p 0) (wordAt p 1).toNat (byteAt p 3).toNat s)
          (fun s => acceptWith (s.pool.readData o.chain (wordAt p 1).toNat (byteAt p 3).toNat) s) s) s := rfl

/-- The three fields of a payload that names a range of data positions (R34, R44). -/
theorem rangeFields_iff (p : List Byte) :
    (decide (byteAt p 0 ≠ 0) && decide (1 ≤ (byteAt p 3).toNat ∧ (byteAt p 3).toNat ≤ 192) &&
      decide ((wordAt p 1).toNat ≤ 2047)) = true ↔
    byteAt p 0 ≠ 0 ∧ 1 ≤ (byteAt p 3).toNat ∧ (byteAt p 3).toNat ≤ 192 ∧ pairAt p 1 ≤ 2047 := by
  rw [wordAt_toNat]
  simp only [Bool.and_eq_true, decide_eq_true_eq, and_assoc]

theorem fetched_unreadable_iff (o : Order) :
    (decide (o.kind ≠ .bulkFetch) || !(decide (o.state = .active) || decide (o.state = .parked))) = true ↔
      ¬ (o.kind = .bulkFetch ∧ (o.state = .active ∨ o.state = .parked)) := by
  simp only [Bool.or_eq_true, Bool.not_eq_true', Bool.or_eq_false_iff, decide_eq_true_eq, decide_eq_false_iff_not]
  tauto

theorem fetched_unowned_iff (p : SegmentPool) (tag : Byte) (chain : List SegId) (offset n : Nat) :
    ((List.range n).any fun i => !p.positionReached .hostSide tag chain (offset + i)) = true ↔
      ¬ ∀ i, i < n → p.Reached .hostSide tag chain (offset + i) := by
  simp only [List.any_eq_true, List.mem_range, Bool.not_eq_true', Bool.eq_false_iff, ne_eq,
    SegmentPool.positionReached_iff, not_forall, exists_prop]

/-- Settles O22: the tests in their order, then the bytes of the range. -/
theorem readFetchedAnswer : Obligations.ReadFetchedAnswer := by
  refine ⟨?_, fun tag off n s hs named offset low high => ?_⟩
  · exact refusesBadForms_of (req := reqReadFetched) (l := fun p => decide (p.length = 4)) (fun _ _ => rfl)
      (fun p s => ⟨_, reqReadFetched_eq p s⟩) (fun _ => decide_eq_true_iff) fun p _ => rangeFields_iff p
  · have word : wordAt (tag :: leWord off ++ [n]) 1 = off := wordAt_of_leWord off [tag] [n]
    have body := reqReadFetched_eq (tag :: leWord off ++ [n]) (s.taken 0x15 (tag :: leWord off ++ [n]))
    rw [word] at body
    replace body := body.trans (checked_pass rfl
      (by simpa [byteAt, leWord] using And.intro (And.intro named (And.intro low high)) offset) (gateReady_taken hs _ _))
    have refused {c : OutcomeCode} (hc : c ≠ .accepted) (h : reqReadFetched (tag :: leWord off ++ [n])
        (s.taken 0x15 (tag :: leWord off ++ [n])) = refuse c (s.taken 0x15 (tag :: leWord off ++ [n]))) :=
      exec_refused (mk := .readFetched) hs (by simp [leWord]) rfl hc h
    refine ⟨fun absent => refused (by decide) (body.trans
      (withOrder_none (s := s.taken 0x15 (tag :: leWord off ++ [n])) absent _)), fun o found => ?_⟩
    replace body := body.trans (withOrder_some (s := s.taken 0x15 (tag :: leWord off ++ [n])) found _)
    have unreadable := fetched_unreadable_iff o
    have unowned := fetched_unowned_iff s.pool tag o.chain off.toNat n.toNat
    refine ⟨fun h => ?_, fun readable h => ?_, fun readable owned h => ?_, fun readable owned h => ?_⟩
    · exact refused (by decide) (body.trans (firstOf_holds (unreadable.2 h) _ _ _ _))
    · exact refused (by decide) (body.trans ((firstOf_fails (Bool.eq_false_iff.2 fun c => unreadable.1 c readable) _ _ _ _).trans
        (firstOf_holds (unowned.2 h) _ _ _ _)))
    · exact refused (by decide) (body.trans ((firstOf_fails (Bool.eq_false_iff.2 fun c => unreadable.1 c readable) _ _ _ _).trans
        ((firstOf_fails (Bool.eq_false_iff.2 fun c => unowned.1 c owned) _ _ _ _).trans
          (firstOf_holds (decide_eq_true h) _ _ _ _))))
    · refine ⟨s.pool.readData o.chain off.toNat n.toNat, ?_, by simp [SegmentPool.readData], fun i hi => ?_⟩
      · exact exec_accepted (mk := .readFetched) hs (by simp [leWord]) rfl (by decide) (body.trans
          ((firstOf_fails (Bool.eq_false_iff.2 fun c => unreadable.1 c readable) _ _ _ _).trans
            ((firstOf_fails (Bool.eq_false_iff.2 fun c => unowned.1 c owned) _ _ _ _).trans
              (firstOf_fails (decide_eq_false (show ¬ o.progress < off.toNat + n.toNat by omega)) _ _ _ _))))
      · obtain ⟨g, at_, -, -⟩ := owned i hi
        obtain ⟨address, byte⟩ := SegmentPool.dataByte_eq (p := s.pool) at_
        exact ⟨_, address, by simp [SegmentPool.readData, hi, byte]⟩

/-! ## CANCEL_ORDER -/

/-- Settles O20: by the state of the order, and by whether its exchange is in flight. -/
theorem cancelOrderByState : Obligations.CancelOrderByState := by
  refine ⟨tagRequest_refusesBadForms fun _ _ => rfl, fun tag s hs named => ?_⟩
  have refused {c : OutcomeCode} (hc : c ≠ .accepted)
      (h : reqCancelOrder [tag] (s.taken 0x13 [tag]) = refuse c (s.taken 0x13 [tag])) :=
    exec_refused (mk := .cancelOrder) hs (by simp) rfl hc h
  refine ⟨fun absent => refused (by decide) (tagRequest_absent hs 0x13 named absent _), fun o found => ?_⟩
  have body : reqCancelOrder [tag] (s.taken 0x13 [tag]) = _ := tagRequest_found hs 0x13 named found _
  obtain rfl : o.tag = tag := (OrderTable.find_some found).2
  have busy : (s.taken 0x13 [o.tag]).orderInFlight o = true ↔ s.busy (trunkOf o.node) o.tag := orderInFlight_iff _ o
  have found' : (s.taken 0x13 [o.tag]).table.find o.tag = some o := found
  refine ⟨fun late => refused (by decide) (body.trans ?_), fun ends => ?_, fun active inFlight => ?_⟩
  · rcases late with h | h <;> rw [h]
  · have idle : o.state = .filling ∨ o.state = .queued ∨
        (o.state = .active ∧ (s.taken 0x13 [o.tag]).orderInFlight o = false) :=
      ends.imp_right (Or.imp_right (And.imp_right fun idle => Bool.eq_false_iff.2 (mt busy.1 idle)))
    have ended := endOrMark_ends (m := .cancel) found' idle
    refine exec_accepted (mk := .cancelOrder) hs (by simp) rfl (by decide) (body.trans ?_)
    rw [ended]
    rcases idle with h | h | ⟨h, idle⟩ <;> rw [h]
    · rfl
    · rfl
    · simp only [idle]
      rfl
  · have marked := endOrMark_marks (m := .cancel) found' active (busy.2 inFlight)
    have run := exec_served (mk := .cancelOrder) (req := reqCancelOrder) hs (by simp) rfl (p := [o.tag])
    rw [body, active] at run
    simp only [busy.2 inFlight, if_true, marked] at run
    exact ⟨_, run, rfl, OrderTable.find_update_same (fun _ => rfl) found,
      fun u other => OrderTable.find_update_other (fun _ => rfl) other, rfl, rfl, rfl⟩

end Sys2Proof.Machine
end

section
/-! PROOFS. FILL_ORDER: data written at consecutive data positions, over one segment and the next (R32, R34 to R36). -/

namespace Sys2Proof.Machine

open Sys2Proof

/-! ## Addresses of data positions -/

theorem dataAddress_eq_some {chain : List SegId} {pos a : Nat} : dataAddress chain pos = some a ↔
    ∃ g, chain[pos / 256]? = some g ∧ 256 * g.val + pos % 256 = a := by
  unfold dataAddress
  cases chain[pos / 256]? <;> simp

/-- Two data positions of one order never share an address. -/
theorem dataAddress_inj {chain : List SegId} (once : chain.Nodup) {p q a : Nat} (hp : dataAddress chain p = some a)
    (hq : dataAddress chain q = some a) : p = q := by
  obtain ⟨g, atP, eP⟩ := dataAddress_eq_some.1 hp
  obtain ⟨h, atQ, eQ⟩ := dataAddress_eq_some.1 hq
  obtain rfl : g = h := Fin.ext (by omega)
  have block : p / 256 = q / 256 :=
    (List.getElem?_inj (List.getElem?_eq_some_iff.1 atP).1 once).1 (atP.trans atQ.symm)
  omega

/-! ## One byte -/

/-- The pool with the next byte of an order at a position of one of its segments (R33, R36). -/
def SegmentPool.byteWritten (g : SegId) (pos : Nat) (v : Byte) (p : SegmentPool) : SegmentPool :=
  { p with mem := Memory.write p.mem (256 * g.val + pos) v, segs := upd p.segs g fun r => { r with fill := r.fill + 1 } }

theorem SegmentPool.byteWritten_seg (g h : SegId) (pos : Nat) (v : Byte) (p : SegmentPool) :
    (p.byteWritten g pos v).seg h = if h = g then { p.seg g with fill := (p.seg g).fill + 1 } else p.seg h := by
  refine (upd_get p.segs g h _).trans ?_
  split
  · subst h
    rfl
  · rfl

theorem SegmentPool.byteWritten_reached (g : SegId) (pos : Nat) (v : Byte) (p : SegmentPool) {side : Owner} {tag : Byte}
    {chain : List SegId} {q : Nat} (h : p.Reached side tag chain q) : (p.byteWritten g pos v).Reached side tag chain q := by
  obtain ⟨r, at_, owner, mark⟩ := h
  refine ⟨r, at_, ?_, ?_⟩ <;> rw [SegmentPool.byteWritten_seg]
  · split
    · subst r
      exact owner
    · exact owner
  · split
    · subst r
      exact mark
    · exact mark

theorem SegmentPool.writeData_cons {side : Owner} {tag : Byte} {chain : List SegId} {offset : Nat} {g : SegId} (v : Byte)
    (data : List Byte) (p : SegmentPool) (at_ : chain[offset / 256]? = some g) (owner : (p.seg g).owner = side)
    (mark : (p.seg g).tag = some tag) : p.writeData side tag chain offset (v :: data) =
      (p.byteWritten g (offset % 256) v).writeData side tag chain (offset + 1) data := by
  have written : p.writeByte side tag g (offset % 256) v = p.byteWritten g (offset % 256) v :=
    if_pos ((SegmentPool.reaches_iff p side tag g).2 ⟨owner, mark⟩)
  rw [← written]
  show SegmentPool.writeData side tag chain (offset + 1) data (match chain[offset / 256]? with
    | some g => p.writeByte side tag g (offset % 256) v
    | none => p) = _
  rw [at_]

/-! ## The bytes of a fill -/

/-- How many of the `n` data positions from an offset lie in a segment. -/
def positionsIn (chain : List SegId) (offset n : Nat) (g : SegId) : Nat :=
  ((List.range n).filter fun i => decide (chain[(offset + i) / 256]? = some g)).length

theorem positionsIn_succ (chain : List SegId) (offset n : Nat) (g : SegId) : positionsIn chain offset (n + 1) g =
    (if chain[offset / 256]? = some g then 1 else 0) + positionsIn chain (offset + 1) n g := by
  have rest : ((List.range n).map Nat.succ).filter (fun i => decide (chain[(offset + i) / 256]? = some g)) =
      ((List.range n).filter fun i => decide (chain[(offset + 1 + i) / 256]? = some g)).map Nat.succ := by
    rw [List.filter_map]
    congr 1
    apply List.filter_congr
    intro i _
    simp only [Function.comp_apply, Nat.succ_eq_add_one, Nat.add_assoc, Nat.add_comm 1 i]
  unfold positionsIn
  rw [List.range_succ_eq_map, List.filter_cons, rest]
  by_cases first : chain[offset / 256]? = some g
  · simp [first]
    omega
  · simp [first]

/-- What data written at positions that the side reaches leaves: the bytes at their addresses, the fill counts raised by the bytes
in each segment, and every other address (R32, R33, R36). -/
structure SegmentPool.Written (chain : List SegId) (offset : Nat) (data : List Byte) (p u : SegmentPool) : Prop where
  freeList : u.freeList = p.freeList
  bytes : ∀ i, i < data.length → ∃ a, dataAddress chain (offset + i) = some a ∧ some (Memory.read u.mem a) = data[i]?
  others : ∀ a, (∀ i, i < data.length → dataAddress chain (offset + i) ≠ some a) →
    Memory.read u.mem a = Memory.read p.mem a
  fill : ∀ g, (u.seg g).fill = (p.seg g).fill + positionsIn chain offset data.length g

theorem SegmentPool.writeData_written {side : Owner} {tag : Byte} {chain : List SegId} (once : chain.Nodup) (data : List Byte)
    (offset : Nat) (p : SegmentPool) (wf : Memory.wf p.mem)
    (reached : ∀ i, i < data.length → p.Reached side tag chain (offset + i)) :
    p.Written chain offset data (p.writeData side tag chain offset data) := by
  induction data generalizing offset p with
  | nil => exact ⟨rfl, fun i hi => absurd hi (Nat.not_lt_zero i), fun _ _ => rfl, fun _ => rfl⟩
  | cons v data ih =>
    obtain ⟨g, at_, owner, mark⟩ := reached 0 (Nat.succ_pos _)
    rw [Nat.add_zero] at at_
    rw [SegmentPool.writeData_cons v data p at_ owner mark]
    have first : dataAddress chain offset = some (256 * g.val + offset % 256) := dataAddress_eq_some.2 ⟨g, at_, rfl⟩
    have next := ih (offset + 1) (p.byteWritten g (offset % 256) v) (Memory.write_wf wf _ _) fun i hi => by
      have := reached (i + 1) (Nat.succ_lt_succ hi)
      rw [show offset + (i + 1) = offset + 1 + i by omega] at this
      exact SegmentPool.byteWritten_reached g _ v p this
    refine ⟨next.freeList, fun i hi => ?_, fun a away => ?_, fun h => ?_⟩
    · cases i with
      | zero =>
        refine ⟨_, first, ?_⟩
        rw [next.others _ fun i _ again => absurd (dataAddress_inj once first again) (by omega)]
        exact congrArg some (Memory.read_write_same wf _ _)
      | succ i =>
        obtain ⟨a, address, byte⟩ := next.bytes i (Nat.lt_of_succ_lt_succ hi)
        rw [show offset + 1 + i = offset + (i + 1) by omega] at address
        exact ⟨a, address, byte⟩
    · rw [next.others a fun i hi => by
        have := away (i + 1) (Nat.succ_lt_succ hi)
        rwa [show offset + (i + 1) = offset + 1 + i by omega] at this]
      exact Memory.read_write_other _ _ _ fun e => away 0 (Nat.succ_pos _) (first.trans (congrArg some e.symm))
    · rw [next.fill, SegmentPool.byteWritten_seg, List.length_cons, positionsIn_succ, at_]
      by_cases e : h = g
      · subst e
        simp
        omega
      · rw [if_neg e, if_neg fun c => e (Option.some.inj c).symm, Nat.zero_add]

/-! ## The request -/

/-- The tests of FILL_ORDER in their order (R35). -/
def fillTests (o : Order) (offset n : Nat) : List (Bool × OutcomeCode) :=
  [(decide (o.state ≠ .filling), .wrongState), (decide (offset ≠ o.fill), .fillGap), (decide (o.length < offset + n), .overrun)]

/-- An accepted fill (R36). -/
def State.filled (o : Order) (tag : Byte) (offset : Nat) (data : List Byte) (n : Nat) (s : State) : State :=
  (s.modPool (SegmentPool.writeData .hostSide tag o.chain offset data)).modTable
    (OrderTable.update tag fun o => { o with fill := o.fill + n })

theorem reqFillOrder_eq (p : List Byte) (s : State) : reqFillOrder p s =
    checked gateReady (decide (4 ≤ p.length) && decide (p.length = 4 + (byteAt p 3).toNat))
      (decide (byteAt p 0 ≠ 0) && decide (1 ≤ (byteAt p 3).toNat ∧ (byteAt p 3).toNat ≤ 192) &&
        decide ((wordAt p 1).toNat ≤ 2047))
      (withOrder (byteAt p 0) fun o s =>
        firstOf (fillTests o (wordAt p 1).toNat (byteAt p 3).toNat)
          (fun s => accept (s.filled o (byteAt p 0) (wordAt p 1).toNat (p.drop 4) (byteAt p 3).toNat)) s) s := rfl

/-- FILL_ORDER of a READY part, by the fields of its payload. -/
theorem reqFillOrder_taken {s : State} (hs : s.serves) {tag : Byte} {off : Word} {data : List Byte} (named : tag ≠ 0)
    (offset : off.toNat ≤ 2047) (some_ : data ≠ []) (fits : data.length ≤ 192) :
    reqFillOrder (tag :: leWord off ++ byteOf data.length :: data)
        (s.taken 0x11 (tag :: leWord off ++ byteOf data.length :: data)) =
      withOrder tag (fun o s => firstOf (fillTests o off.toNat data.length)
        (fun s => accept (s.filled o tag off.toNat data data.length)) s)
        (s.taken 0x11 (tag :: leWord off ++ byteOf data.length :: data)) := by
  have word : wordAt (tag :: leWord off ++ byteOf data.length :: data) 1 = off := wordAt_of_leWord off [tag] _
  have count : (byteAt (tag :: leWord off ++ byteOf data.length :: data) 3).toNat = data.length := by
    simp [byteAt, leWord, byteOf]
    omega
  have named' : byteAt (tag :: leWord off ++ byteOf data.length :: data) 0 = tag := rfl
  have rest : (tag :: leWord off ++ byteOf data.length :: data).drop 4 = data := rfl
  have low : 1 ≤ data.length := List.length_pos_iff.2 some_
  rw [reqFillOrder_eq, word, count, named', rest]
  have long : (tag :: leWord off ++ byteOf data.length :: data).length = 4 + data.length := by
    simp only [leWord, List.cons_append, List.nil_append, List.length_cons]
    omega
  refine checked_pass ?_ ?_ (gateReady_taken hs _ _)
  · rw [long, decide_eq_true (Nat.le_add_right 4 _), decide_eq_true rfl]
    rfl
  · rw [decide_eq_true named, decide_eq_true (And.intro low fits), decide_eq_true offset]
    rfl

/-- Settles O18: the tests in their order, then the data at its positions. -/
theorem fillOrderEffect : Obligations.FillOrderEffect := by
  refine ⟨?_, fun tag off data s hs named offset some_ fits => ?_⟩
  · refine refusesBadForms_of (req := reqFillOrder)
      (l := fun p => decide (4 ≤ p.length) && decide (p.length = 4 + (byteAt p 3).toNat)) (fun _ _ => rfl)
      (fun p s => ⟨_, reqFillOrder_eq p s⟩) (fun p => ?_) fun p _ => rangeFields_iff p
    rw [Bool.and_eq_true_iff, decide_eq_true_iff, decide_eq_true_iff]
  · obtain ⟨p, payload⟩ : ∃ p, p = tag :: leWord off ++ byteOf data.length :: data := ⟨_, rfl⟩
    have short : p.length ≤ 200 := by
      rw [payload]
      simp [leWord]
      omega
    have body := reqFillOrder_taken hs named offset some_ fits
    rw [← payload] at body
    have refused {c : OutcomeCode} (hc : c ≠ .accepted) (h : reqFillOrder p (s.taken 0x11 p) = refuse c (s.taken 0x11 p)) :=
      exec_refused (mk := .fillOrder) hs short rfl hc h
    simp only [← payload]
    refine ⟨fun absent => refused (by decide) (body.trans (withOrder_none (s := s.taken 0x11 p) absent _)), fun o found => ?_⟩
    replace body := body.trans (withOrder_some (s := s.taken 0x11 p) found _)
    have passed (filling : o.state = .filling) := firstOf_fails (decide_eq_false (not_not_intro filling)) OutcomeCode.wrongState
      [(decide (off.toNat ≠ o.fill), .fillGap), (decide (o.length < off.toNat + data.length), .overrun)]
      (fun s => accept (s.filled o tag off.toNat data data.length)) (s.taken 0x11 p)
    refine ⟨fun h => ?_, fun filling h => ?_, fun filling gapless h => ?_, fun filling gapless room wf once reached => ?_⟩
    · exact refused (by decide) (body.trans (firstOf_holds (decide_eq_true h) _ _ _ _))
    · exact refused (by decide) (body.trans ((passed filling).trans (firstOf_holds (decide_eq_true h) _ _ _ _)))
    · exact refused (by decide) (body.trans ((passed filling).trans
        ((firstOf_fails (decide_eq_false (not_not_intro gapless)) _ _ _ _).trans
          (firstOf_holds (decide_eq_true (by omega)) _ _ _ _))))
    · have run := exec_accepted (mk := .fillOrder) hs short rfl (by decide) (body.trans ((passed filling).trans
        ((firstOf_fails (decide_eq_false (not_not_intro gapless)) _ _ _ _).trans
          (firstOf_fails (decide_eq_false (show ¬ o.length < off.toNat + data.length by omega)) _ _ _ _))))
      rw [gapless] at run
      have written := SegmentPool.writeData_written (side := .hostSide) (tag := tag) once data o.fill s.pool wf
        fun i hi => reached (o.fill + i) (by omega) (by omega)
      refine ⟨_, run, rfl, OrderTable.find_update_same (fun _ => rfl) found,
        fun u other => OrderTable.find_update_other (fun _ => rfl) other, rfl, rfl, written.freeList, written.bytes,
        written.others, fun g => ?_, rfl⟩
      obtain ⟨owner, mark, -⟩ := SegmentPool.writeData_tags .hostSide tag o.chain o.fill data s.pool g
      exact ⟨owner, mark, written.fill g⟩

end Sys2Proof.Machine
end

section
/-! PROOFS. The start of an exchange (chapter 3): the frame, the record, and what the start leaves unchanged. -/

namespace Sys2Proof.Machine

open Sys2Proof

/-! ## Changes of one place -/

theorem upd_upd {α : Type} {n : Nat} (v : Vector α n) (i : Fin n) (f g : α → α) :
    upd (upd v i f) i g = upd v i fun x => g (f x) := by
  apply Vector.ext
  intro j hj
  show (upd (upd v i f) i g)[(⟨j, hj⟩ : Fin n)] = (upd v i fun x => g (f x))[(⟨j, hj⟩ : Fin n)]
  rw [upd_get, upd_get, upd_get]
  by_cases e : (⟨j, hj⟩ : Fin n) = i
  · simp only [if_pos e]
  · simp only [if_neg e]

/-! ## Frames -/

/-- A part-to-node frame, its bytes in their order (3.2). -/
theorem trunkFrame_eq (station : Byte) (type : ExchangeType) (seqBit resync : Bool) (mode : BitVec 6) (payload : List Byte) :
    trunkFrame station type seqBit resync mode payload =
      0x96#8 :: ((station :: (type.code ||| (if seqBit then 8 else 0) ||| (if resync then 16 else 0)) ::
        byteOf mode.toNat :: (leNat payload.length ++ payload)) ++
      leWord (trunkCheck (station :: (type.code ||| (if seqBit then 8 else 0) ||| (if resync then 16 else 0)) ::
        byteOf mode.toNat :: (leNat payload.length ++ payload)))) := by
  have seq : flagByte seqBit <<< 3 = if seqBit then 8 else 0 := by revert seqBit; decide
  have re : flagByte resync <<< 4 = if resync then 16 else 0 := by revert resync; decide
  unfold trunkFrame
  rw [seq, re, setWidth_eq_byteOf]

/-! ## The held exchange of a node -/

theorem State.dropHeld_held (o : Order) (s : State) (m : NodeId) : (s.dropHeld o).held[m] =
    if m = o.node ∧ s.held[m].map HeldExchange.tag = some o.tag then none else s.held[m] := by
  unfold State.dropHeld
  split
  · rename_i h found
    by_cases own : h.tag = o.tag
    · rw [if_pos own]
      refine (upd_get s.held o.node m _).trans ?_
      by_cases e : m = o.node
      · subst e
        rw [if_pos rfl, if_pos ⟨rfl, by rw [found]; exact congrArg some own⟩]
      · rw [if_neg e, if_neg fun c => e c.1]
    · rw [if_neg own, if_neg]
      rintro ⟨rfl, same⟩
      rw [found] at same
      exact own (Option.some.inj same)
  · rename_i free
    rw [if_neg]
    rintro ⟨rfl, same⟩
    rw [free] at same
    cases same

/-! ## The exchange of an order -/

theorem orderExchange_held {s : State} {n : NodeId} {o : Order} {h : HeldExchange} (held : s.held[n] = some h)
    (own : h.tag = o.tag) : s.orderExchange n o = h.resume n (s.orderPayload o) := by
  unfold State.orderExchange
  rw [held]
  exact if_pos own

theorem orderExchange_fresh {s : State} {n : NodeId} {o : Order} (free : ¬ ∃ h, s.held[n] = some h ∧ h.tag = o.tag) :
    s.orderExchange n o = s.newExchange n o.kind.exchangeType (some o.tag) (s.orderPayload o) := by
  unfold State.orderExchange
  split
  · rename_i h held
    exact if_neg fun own => free ⟨h, held, own⟩
  · rfl

theorem newExchange_frame (s : State) (n : NodeId) (type : ExchangeType) (order : Option Byte) (payload : List Byte) :
    (s.newExchange n type order payload).frame = trunkFrame (stationOf n) (s.newExchange n type order payload).type
      (s.newExchange n type order payload).seqBit (s.newExchange n type order payload).resync
      (s.newExchange n type order payload).mode payload := rfl

/-- What every exchange of an order is built with, held before or not (R51, R52, R63). -/
theorem orderExchange_opening (s : State) (n : NodeId) (o : Order) :
    let x := s.orderExchange n o
    x.single = false ∧ (x.retriesSent = 0 ∧ x.noStart = 0 ∧ x.broken = 0 ∧ x.stray = 0) ∧
      x.frame = trunkFrame (stationOf n) x.type x.seqBit x.resync x.mode (s.orderPayload o) := by
  by_cases held : ∃ h, s.held[n] = some h ∧ h.tag = o.tag
  · obtain ⟨h, held, own⟩ := held
    rw [orderExchange_held held own]
    exact ⟨rfl, ⟨rfl, rfl, rfl, rfl⟩, rfl⟩
  · rw [orderExchange_fresh held]
    refine ⟨?_, ⟨rfl, rfl, rfl, rfl⟩, rfl⟩
    cases kind : o.kind <;> simp [State.newExchange, OrderKind.exchangeType]

theorem needsResync_iff (r : NodeRecord) : r.needsResync = true ↔ r.state = .unseen ∨ 0 < r.consecutive := by
  simp [NodeRecord.needsResync]

theorem orderPayload_send {s : State} {o : Order} {g : SegId} {rest : List SegId} (kind : o.kind = .bulkSend)
    (chain : o.chain = g :: rest) (owner : (s.pool.seg g).owner = .trunkSide) (tag : (s.pool.seg g).tag = some o.tag) :
    s.orderPayload o = leNat o.progress ++ leNat o.length ++
      (List.range (s.pool.seg g).fill).map fun i => Memory.read s.pool.mem (256 * g.val + i) := by
  unfold State.orderPayload
  rw [kind, chain]
  simp only [(SegmentPool.reaches_iff s.pool .trunkSide o.tag g).2 ⟨owner, tag⟩, if_true]
  rfl

/-- Settles O50: the record by the held exchange, and the blocks that the start changes. -/
theorem exchangeStarts : Obligations.ExchangeStarts := by
  refine ⟨rfl, rfl, fun n o burst s found own => ?_, fun n s => ?_⟩
  · subst own
    obtain ⟨single, opening, frame⟩ := orderExchange_opening s o.node o
    rw [trunkFrame_eq] at frame
    have held := State.dropHeld_held o s
    have kindPayload (k : OrderKind) (h : o.kind = k) : s.orderPayload o = s.orderPayload { o with kind := k } := by
      subst h
      rfl
    rw [State.startOrderExchange_eq]
    refine ⟨s.orderExchange o.node o, s.orderPayload o, upd_same s.engines _ _, by simp, by simp, single, opening, frame,
      fun kind => (kindPayload _ kind).trans rfl, fun kind => (kindPayload _ kind).trans rfl,
      fun g rest kind chain owner tag => orderPayload_send kind chain owner tag,
      fun kind => (kindPayload _ kind).trans rfl, fun kind => (kindPayload _ kind).trans rfl,
      fun kind => (kindPayload _ kind).trans rfl, fun h kept same => ?_, fun free => ?_, fun m other => ?_, ?_,
      fun v other => ?_, rfl, rfl, upd_same s.trunks _ _, fun m other => ⟨upd_other s.trunks _ m _ other, ?_⟩, rfl⟩
    · rw [orderExchange_held kept same]
      refine ⟨rfl, rfl, rfl, rfl, rfl, rfl, (held o.node).trans (if_pos ⟨rfl, ?_⟩)⟩
      rw [kept]
      exact congrArg some same
    · rw [orderExchange_fresh free]
      refine ⟨rfl, ⟨rfl, needsResync_iff _, rfl, rfl, rfl⟩, (held o.node).trans (if_neg fun c => free ?_)⟩
      exact Option.map_eq_some_iff.1 c.2
    · exact (held m).trans (if_neg fun c => other c.1)
    · exact OrderTable.find_update_same (fun _ => rfl) found
    · exact OrderTable.find_update_other (fun _ => rfl) other
    · exact upd_other s.engines _ m _ other
  · refine ⟨s.newExchange n .poll none [], upd_same s.engines _ _, rfl, rfl, rfl, ?_, ⟨rfl, rfl, rfl, rfl⟩,
      ⟨rfl, needsResync_iff _, rfl, rfl, rfl⟩, ?_, fun m other => upd_other s.engines _ m _ other, rfl⟩
    · simp [State.newExchange]
    · exact (newExchange_frame _ _ _ _ _).trans (trunkFrame_eq _ _ _ _ _ _)

end Sys2Proof.Machine
end

section
/-! PROOFS. The trunk-free event (chapter 4): the candidates, the group served, the node chosen, the pass-over counts and the
grant. -/

namespace Sys2Proof.Machine

open Sys2Proof

/-! ## Candidates -/

theorem offerable_iff {s : State} {c : OrderClass} {n : NodeId} : s.offerable c n = true ↔
    ((s.nodes[n].state = .unseen ∨ s.nodes[n].state = .online) ∧ s.nodeScheds[n].inForce = false) ∧
      ∃ o, s.table.head n = some o ∧ o.cls = c ∧ (o.state = .queued ∨ (o.state = .active ∧ s.orderInFlight o = false)) := by
  constructor
  · intro h
    obtain ⟨o, offered, cls⟩ := State.offered_of_offerable h
    obtain ⟨service, backoff, head, state⟩ := State.offered_eq_some.1 offered
    exact ⟨⟨service, backoff⟩, o, head, cls, state⟩
  · rintro ⟨⟨service, backoff⟩, o, head, cls, state⟩
    unfold State.offerable
    rw [State.offered_eq_some.2 ⟨service, backoff, head, state⟩]
    exact decide_eq_true cls

theorem dueForPoll_iff {s : State} {n : NodeId} : s.dueForPoll n = true ↔
    ((s.nodes[n].state = .unseen ∨ s.nodes[n].state = .online) ∧ s.nodeScheds[n].inForce = false) ∧
      s.table.queue n = [] ∧ s.nodeScheds[n].pollDue = true := by
  unfold State.dueForPoll
  rw [Bool.and_eq_true_iff, Bool.and_eq_true_iff, Bool.and_eq_true_iff, NodeState.inService_iff, List.isEmpty_iff,
    Bool.not_eq_true']
  tauto

/-- The groups other than the ANNOUNCE have a candidate when a node of the trunk is one (R83). -/
theorem hasCandidate_iff {s : State} {t : TrunkId} {g : Group} (h : g ≠ .announce) :
    s.hasCandidate t g = true ↔ ∃ n, trunkOf n = t ∧ s.candidate g n = true := by
  have any : s.hasCandidate t g = (trunkNodes t).any (s.candidate g) := by
    cases g
    · exact absurd rfl h
    all_goals rfl
  rw [any, List.any_eq_true]
  exact exists_congr fun n => and_congr_left' (mem_trunkNodes t n)

theorem isFree_iff {s : State} {t : TrunkId} : s.isFree t = true ↔
    s.startUp.part = .ready ∧ (s.trunks[t].state = .active ∨ s.trunks[t].state = .quiet) ∧ s.trunks[t].wait ≠ .settle ∧
      s.engines[t].phase = .idle ∧ s.engines[t].exch = none := by
  simp only [State.isFree, Bool.and_eq_true, Bool.or_eq_true, decide_eq_true_eq, Option.isNone_iff_eq_none, and_assoc]

/-! ## The group served (R84) -/

/-- Why a group is served (R84): the two guarded groups first when their pass-over count has reached the limit, else the group of
least rank. -/
structure State.Serves (s : State) (t : TrunkId) (g : Group) : Prop where
  node : g ≠ .announce
  has : s.hasCandidate t g = true
  routine : g = .routine → s.trunks[t].config.guardLimit ≤ s.scheds[t].passR ∨
    (¬ (s.trunks[t].config.guardLimit ≤ s.scheds[t].passP ∧ s.hasCandidate t .poll = true) ∧
      ¬ s.hasCandidate t .urgent = true)
  poll : g = .poll → ¬ (s.trunks[t].config.guardLimit ≤ s.scheds[t].passR ∧ s.hasCandidate t .routine = true) ∧
    (s.trunks[t].config.guardLimit ≤ s.scheds[t].passP ∨
      (¬ s.hasCandidate t .urgent = true ∧ ¬ s.hasCandidate t .routine = true))
  urgent : g = .urgent → ¬ (s.trunks[t].config.guardLimit ≤ s.scheds[t].passR ∧ s.hasCandidate t .routine = true) ∧
    ¬ (s.trunks[t].config.guardLimit ≤ s.scheds[t].passP ∧ s.hasCandidate t .poll = true)

theorem groupServed_announce {s : State} {t : TrunkId} (h : s.scheds[t].announce = true) : s.groupServed t = some .announce :=
  if_pos h

theorem groupServed_cases {s : State} {t : TrunkId} (quiet : s.scheds[t].announce = false) :
    (s.groupServed t = none ∧ ∀ g, g ≠ .announce → s.hasCandidate t g = false) ∨
      ∃ g, s.groupServed t = some g ∧ s.Serves t g := by
  have silent : ¬ s.hasCandidate t .announce = true := by
    show ¬ s.scheds[t].announce = true
    rw [quiet]
    decide
  unfold State.groupServed
  simp only [if_neg silent]
  split
  · rename_i h
    exact .inr ⟨_, rfl, nofun, h.2, fun _ => .inl h.1, nofun, nofun⟩
  · rename_i noRoutine
    split
    · rename_i h
      exact .inr ⟨_, rfl, nofun, h.2, nofun, fun _ => ⟨noRoutine, .inl h.1⟩, nofun⟩
    · rename_i noPoll
      split
      · rename_i h
        exact .inr ⟨_, rfl, nofun, h, nofun, nofun, fun _ => ⟨noRoutine, noPoll⟩⟩
      · rename_i noUrgent
        split
        · rename_i h
          exact .inr ⟨_, rfl, nofun, h, fun _ => .inr ⟨noPoll, noUrgent⟩, nofun, nofun⟩
        · rename_i none
          split
          · rename_i h
            exact .inr ⟨_, rfl, nofun, h, nofun, fun _ => ⟨noRoutine, .inr ⟨noUrgent, none⟩⟩, nofun⟩
          · refine .inl ⟨rfl, fun g node => Bool.eq_false_iff.2 ?_⟩
            cases g
            · exact absurd rfl node
            all_goals assumption

/-! ## The node chosen (R85) -/

theorem slotOf_nodeAt (t : TrunkId) (k : Fin 8) : slotOf (nodeAt t k) = k := by
  apply Fin.ext
  show (8 * t.val + k.val) % 8 = k.val
  omega

theorem nodeAt_slotOf (n : NodeId) : nodeAt (trunkOf n) (slotOf n) = n := by
  apply Fin.ext
  show 8 * (n.val / 8) + n.val % 8 = n.val
  omega

/-- The first of a list in order that passes a test comes before every other that passes it. -/
theorem find?_first {α : Type} {r : α → α → Prop} {p : α → Bool} {l : List α} {a b : α} (sorted : l.Pairwise r)
    (refl : ∀ a, r a a) (h : l.find? p = some a) (hb : b ∈ l) (pb : p b = true) : r a b := by
  induction l with
  | nil => cases h
  | cons c l ih =>
    obtain ⟨first, rest⟩ := List.pairwise_cons.1 sorted
    rw [List.find?_cons] at h
    split at h
    · cases h
      rcases List.mem_cons.1 hb with rfl | hb
      · exact refl _
      · exact first b hb
    · rename_i fails
      rcases List.mem_cons.1 hb with rfl | hb
      · rw [pb] at fails
        cases fails
      · exact ih rest h hb

theorem rotation_sorted (ptr : Fin 8) :
    (rotation ptr).Pairwise (fun a b => (a.val + 7 - ptr.val) % 8 ≤ (b.val + 7 - ptr.val) % 8) := by
  revert ptr
  decide

theorem mem_rotation (ptr k : Fin 8) : k ∈ rotation ptr := by
  revert ptr k
  decide

theorem mem_allSlots (k : Fin 8) : k ∈ allSlots := by
  revert k
  decide

/-- The places of a trunk in the order in which a group takes them. -/
def State.placeOrder (s : State) (t : TrunkId) (g : Group) : List (Fin 8) :=
  if s.trunks[t].config.rotates g then rotation (s.scheds[t].pointer g) else allSlots

theorem mem_placeOrder (s : State) (t : TrunkId) (g : Group) (k : Fin 8) : k ∈ s.placeOrder t g := by
  unfold State.placeOrder
  split
  · exact mem_rotation _ k
  · exact mem_allSlots k

/-- A node was chosen: a candidate, and the first in the order of its group. -/
structure State.Chooses (s : State) (t : TrunkId) (g : Group) (k : Fin 8) : Prop where
  candidate : s.candidate g (nodeAt t k) = true
  rotating : s.trunks[t].config.rotates g = true → ∀ m, trunkOf m = t → s.candidate g m = true →
    ((nodeAt t k).val % 8 + 7 - (s.scheds[t].pointer g).val) % 8 ≤ (m.val % 8 + 7 - (s.scheds[t].pointer g).val) % 8
  ascending : s.trunks[t].config.rotates g = false → ∀ m, trunkOf m = t → s.candidate g m = true →
    (nodeAt t k).val ≤ m.val

theorem placeChosen_cases {s : State} {t : TrunkId} {g : Group} (node : g ≠ .announce) (has : s.hasCandidate t g = true) :
    ∃ k, s.placeChosen t g = some k ∧ s.Chooses t g k := by
  have chosen : s.placeChosen t g = (s.placeOrder t g).find? fun k => s.candidate g (nodeAt t k) := rfl
  have placed {m : NodeId} (own : trunkOf m = t) (cand : s.candidate g m = true) :
      s.candidate g (nodeAt t (slotOf m)) = true := by
    subst own
    rwa [nodeAt_slotOf]
  obtain ⟨n, own, cand⟩ := (hasCandidate_iff node).1 has
  rw [chosen]
  cases first : (s.placeOrder t g).find? fun k => s.candidate g (nodeAt t k) with
  | none => exact absurd (placed own cand) (List.find?_eq_none.1 first _ (mem_placeOrder s t g _))
  | some k =>
    have slot : (nodeAt t k).val % 8 = k.val := congrArg Fin.val (slotOf_nodeAt t k)
    refine ⟨k, rfl, List.find?_some (p := fun k => s.candidate g (nodeAt t k)) first, fun rotates m own cand => ?_, fun fixed m own cand => ?_⟩
    · unfold State.placeOrder at first
      rw [if_pos rotates] at first
      have before := find?_first (rotation_sorted _) (fun _ => Nat.le_refl _) first (mem_rotation _ (slotOf m)) (placed own cand)
      rw [slot]
      exact before
    · unfold State.placeOrder at first
      rw [fixed] at first
      have sorted : allSlots.Pairwise fun a b => a.val ≤ b.val := by decide
      have before : k.val ≤ m.val % 8 :=
        find?_first (r := fun a b : Fin 8 => a.val ≤ b.val) sorted (fun _ => Nat.le_refl _) first (mem_allSlots (slotOf m)) (placed own cand)
      have trunk : m.val / 8 = t.val := congrArg Fin.val own
      show 8 * t.val + k.val ≤ m.val
      omega

/-! ## The grant (R86, R87) -/

/-- The scheduler of a trunk after a grant to a group, at a place (R85, R86). -/
def State.grantSched (s : State) (t : TrunkId) (g : Group) (k : Fin 8) : Scheduler :=
  { ptrU := if g = .urgent ∧ s.trunks[t].config.rotateU then k else s.scheds[t].ptrU
    ptrR := if g = .routine ∧ s.trunks[t].config.rotateR then k else s.scheds[t].ptrR
    ptrP := if g = .poll ∧ s.trunks[t].config.rotateP then k else s.scheds[t].ptrP
    passR := passOver s.trunks[t].config.guardLimit s.scheds[t].passR (s.hasCandidate t .routine) .routine g
    passP := passOver s.trunks[t].config.guardLimit s.scheds[t].passP (s.hasCandidate t .poll) .poll g
    announce := s.scheds[t].announce }

theorem modSched_modSched (t : TrunkId) (f g : Scheduler → Scheduler) (s : State) :
    (s.modSched t f).modSched t g = s.modSched t fun c => g (f c) :=
  congrArg (fun v => ({ s with scheds := v } : State)) (upd_upd s.scheds t f g)

theorem grantSched_eq {s : State} {t : TrunkId} {g : Group} (node : g ≠ .announce) (k : Fin 8) :
    (if s.trunks[t].config.rotates g then (s.updatePassOver t g).modSched t (Scheduler.setPointer g k)
      else s.updatePassOver t g) = s.modSched t fun _ => s.grantSched t g k := by
  unfold State.updatePassOver
  rw [modSched_modSched]
  have at_ {f : Scheduler → Scheduler} {c : Scheduler} (h : f s.scheds[t] = c) : s.modSched t f = s.modSched t fun _ => c := by
    subst h
    rfl
  split
  · rename_i rotates
    refine at_ ?_
    unfold State.grantSched
    cases g
    · exact absurd rfl node
    all_goals
      simp only [TrunkConfig.rotates, Fin.getElem_fin] at rotates
      simp [Scheduler.setPointer, rotates]
  · rename_i fixed
    refine at_ ?_
    unfold State.grantSched
    cases g
    · exact absurd rfl node
    all_goals
      simp only [TrunkConfig.rotates, Fin.getElem_fin] at fixed
      simp [fixed]

theorem trunkFree_notFree {s : State} {t : TrunkId} (h : s.isFree t = false) : s.trunkFree t = s := by
  unfold State.trunkFree
  rw [h]
  rfl

theorem trunkFree_none {s : State} {t : TrunkId} (h : s.groupServed t = none) : s.trunkFree t = s := by
  unfold State.trunkFree
  rw [h]
  exact ite_self s

theorem trunkFree_announce {s : State} {t : TrunkId} (free : s.isFree t = true) (h : s.groupServed t = some .announce) :
    s.trunkFree t = (s.updatePassOver t .announce).startAnnounce t := by
  unfold State.trunkFree
  rw [if_pos free, h]

theorem trunkFree_grant {s : State} {t : TrunkId} {g : Group} {k : Fin 8} (free : s.isFree t = true)
    (served : s.groupServed t = some g) (node : g ≠ .announce) (chosen : s.placeChosen t g = some k) :
    s.trunkFree t = (s.modSched t fun _ => s.grantSched t g k).startFor g (nodeAt t k) := by
  rw [← grantSched_eq node]
  unfold State.trunkFree
  rw [if_pos free, served]
  cases g
  · exact absurd rfl node
  all_goals
    simp only [chosen]
    rfl

theorem passOver_lower {limit old : Nat} {had : Bool} {g served : Group} (other : served ≠ g) (rank : served.rank < g.rank)
    {p : Prop} [Decidable p] (h : had = true ↔ p) : passOver limit old had g served = if p then min limit (old + 1) else 0 := by
  unfold passOver
  rw [if_neg other]
  cases had
  · rw [if_neg (mt h.2 Bool.false_ne_true)]
    rfl
  · rw [if_pos (h.1 rfl)]
    exact if_pos rank

/-- The pass-over counts after a grant to a node (R86). -/
theorem passOver_routine {limit old : Nat} {had : Bool} {g : Group} (node : g ≠ .announce) {p : Prop} [Decidable p]
    (h : had = true ↔ p) : passOver limit old had .routine g =
      if g = .routine ∨ ¬ p then 0 else if g = .urgent then min limit (old + 1) else old := by
  obtain rfl | none := Classical.em (had = false)
  · have no : ¬ p := fun c => by cases h.2 c
    rw [if_pos (.inr no)]
    exact ite_self 0
  · have some : p := h.1 (by simpa using none)
    cases g
    · exact absurd rfl node
    all_goals simp [passOver, Group.rank, some, none]

theorem passOver_poll {limit old : Nat} {had : Bool} {g : Group} (node : g ≠ .announce) {p : Prop} [Decidable p]
    (h : had = true ↔ p) : passOver limit old had .poll g = if g = .poll ∨ ¬ p then 0 else min limit (old + 1) := by
  obtain rfl | none := Classical.em (had = false)
  · have no : ¬ p := fun c => by cases h.2 c
    rw [if_pos (.inr no)]
    exact ite_self 0
  · have some : p := h.1 (by simpa using none)
    cases g
    · exact absurd rfl node
    all_goals simp [passOver, Group.rank, some, none]

theorem startFor_scheds (g : Group) (n : NodeId) (s : State) : (s.startFor g n).scheds = s.scheds := by
  have start : (match s.table.head n with | some o => s.startOrderExchange n o 1 | none => s).scheds = s.scheds := by
    split
    · rw [State.startOrderExchange_eq]
    · rfl
  cases g
  case announce => rfl
  case poll => rfl
  all_goals exact start

/-- A grant to a node of the group U or R starts the exchange of its head order (R87). -/
theorem startFor_order {s : State} {g : Group} {n : NodeId} (node : g ≠ .announce) (order : g ≠ .poll)
    (cand : s.candidate g n = true) {u : State} (table : u.table = s.table) :
    ∃ o, s.table.head n = some o ∧ u.startFor g n = u.startOrderExchange n o 1 := by
  have start {c : OrderClass} (h : s.offerable c n = true) :
      ∃ o, s.table.head n = some o ∧ ∀ f : Order → State, (match u.table.head n with | some o => f o | none => u) = f o := by
    obtain ⟨-, o, head, -⟩ := offerable_iff.1 h
    exact ⟨o, head, fun f => by rw [table, head]⟩
  cases g
  · exact absurd rfl node
  · obtain ⟨o, head, run⟩ := start cand
    exact ⟨o, head, run fun o => u.startOrderExchange n o 1⟩
  · obtain ⟨o, head, run⟩ := start cand
    exact ⟨o, head, run fun o => u.startOrderExchange n o 1⟩
  · exact absurd rfl order

/-- Settles O51: the candidates, then the event by the group served. -/
theorem trunkFreeEvent : Obligations.TrunkFreeEvent := by
  refine ⟨fun n s => ⟨offerable_iff, offerable_iff, dueForPoll_iff, rfl⟩, fun t s => ?_⟩
  have has {g : Group} (node : g ≠ .announce) := hasCandidate_iff (s := s) (t := t) node
  have free := isFree_iff (s := s) (t := t)
  refine ⟨fun busy => trunkFree_notFree (Bool.eq_false_iff.2 (mt free.1 busy)), fun _ quiet idle => ?_,
    fun h pending => ?_, fun h quiet some_ => ?_⟩
  · rcases groupServed_cases quiet with ⟨none, -⟩ | ⟨g, -, serves⟩
    · exact trunkFree_none none
    · exact absurd ((has serves.node).1 serves.has) (idle g)
  · rw [trunkFree_announce (free.2 h) (groupServed_announce pending)]
    have sched := upd_same s.scheds t fun c => { c with
      passR := passOver s.trunks[t].config.guardLimit c.passR (s.hasCandidate t .routine) .routine .announce
      passP := passOver s.trunks[t].config.guardLimit c.passP (s.hasCandidate t .poll) .poll .announce }
    have twice := upd_upd s.scheds t (fun c => { c with
      passR := passOver s.trunks[t].config.guardLimit c.passR (s.hasCandidate t .routine) .routine .announce
      passP := passOver s.trunks[t].config.guardLimit c.passP (s.hasCandidate t .poll) .poll .announce })
      fun c => { c with announce := false }
    refine ⟨?_, ⟨s.announceExchange t, upd_same s.engines t _, rfl, rfl, rfl, ?_⟩, fun m other => ⟨?_, ?_⟩, rfl⟩
    · refine (congrArg (fun v : Vector Scheduler 3 => v[t]) twice).trans ((upd_same s.scheds t _).trans ?_)
      rw [passOver_lower (by decide) (by decide) (has (g := .routine) nofun),
        passOver_lower (by decide) (by decide) (has (g := .poll) nofun)]
    · exact trunkFrame_eq 0 .announce false false s.trunks[t].mode []
    · exact (congrArg (fun v : Vector Scheduler 3 => v[m]) twice).trans (upd_other s.scheds t m _ other)
    · exact upd_other s.engines t m _ other
  · rcases groupServed_cases quiet with ⟨-, none⟩ | ⟨g, served, serves⟩
    · obtain ⟨g, n, own, cand⟩ := some_
      have node : g ≠ .announce := by
        rintro rfl
        cases cand
      exact absurd ((has node).2 ⟨n, own, cand⟩) (by rw [none g node]; decide)
    · obtain ⟨k, chosen, chooses⟩ := placeChosen_cases serves.node serves.has
      have grant := trunkFree_grant (free.2 h) served serves.node chosen
      have sched : (s.trunkFree t).scheds[t] = s.grantSched t g k := by
        rw [grant, startFor_scheds]
        exact upd_same s.scheds t _
      have urgent := has (g := .urgent) nofun
      have routine := has (g := .routine) nofun
      have poll := has (g := .poll) nofun
      refine ⟨g, nodeAt t k, ⟨trunkOf_nodeAt t k, chooses.candidate⟩, fun e => ?_, fun e => ?_, fun e => ?_,
        ⟨fun rotates m c => chooses.rotating rotates m c.1 c.2, fun fixed m c => chooses.ascending fixed m c.1 c.2⟩, ?_,
        fun e => ?_, fun e => ?_⟩
      · simpa only [poll, urgent] using serves.routine e
      · simpa only [routine, urgent] using serves.poll e
      · simpa only [routine, poll] using serves.urgent e
      · rw [sched, slotOf_nodeAt]
        unfold State.grantSched
        rw [passOver_routine serves.node routine, passOver_poll serves.node poll, quiet]
      · rw [sched, grant, e]
        rfl
      · rw [sched, grant]
        exact startFor_order serves.node e chooses.candidate rfl

end Sys2Proof.Machine
end

section
/-! PROOFS. The entry into QUEUED (R8, R121, R160), and COMMIT_ORDER. -/

namespace Sys2Proof.Machine

open Sys2Proof

/-! ## What a trunk-free event leaves unchanged -/

theorem startFor_table (g : Group) (n : NodeId) (s : State) : (s.startFor g n).table = s.table ∨
    ∃ tag, (s.startFor g n).table = s.table.update tag fun o => { o with state := .active } := by
  have start : (match s.table.head n with | some o => s.startOrderExchange n o 1 | none => s).table = s.table ∨
      ∃ tag, (match s.table.head n with | some o => s.startOrderExchange n o 1 | none => s).table =
        s.table.update tag fun o => { o with state := .active } := by
    split
    · rw [State.startOrderExchange_eq]
      exact .inr ⟨_, rfl⟩
    · exact .inl rfl
  cases g
  case announce => exact .inl rfl
  case poll => exact .inl rfl
  all_goals exact start

/-- At a trunk-free event at most one order becomes ACTIVE. -/
theorem trunkFree_table (t : TrunkId) (s : State) : (s.trunkFree t).table = s.table ∨
    ∃ tag, (s.trunkFree t).table = s.table.update tag fun o => { o with state := .active } := by
  unfold State.trunkFree
  split
  · split
    · exact .inl rfl
    · exact .inl rfl
    · split
      · exact .inl rfl
      · dsimp only
        split
        · exact startFor_table _ _ _
        · exact startFor_table _ _ _
  · exact .inl rfl

theorem trunkFree_find {t : TrunkId} {s : State} {tag : Byte} {o : Order} (found : s.table.find tag = some o) :
    (s.trunkFree t).table.find tag = some o ∨ (s.trunkFree t).table.find tag = some { o with state := .active } := by
  rcases trunkFree_table t s with same | ⟨u, changed⟩
  · rw [same]
    exact .inl found
  · rw [changed]
    by_cases e : tag = u
    · subst e
      exact .inr (OrderTable.find_update_same (fun _ => rfl) found)
    · exact .inl ((OrderTable.find_update_other (f := fun o => { o with state := .active }) (fun _ => rfl) e).trans found)

theorem GrantFrame.eq {s t : State} (h : GrantFrame s t) :
    t = { s with table := t.table, held := t.held, scheds := t.scheds, engines := t.engines, trunks := t.trunks } := by
  obtain ⟨pending, startUp, hostLine, -, -, pool, nodes, nodeScheds, supplies, completions, attention, notices, interval, meters,
    claims, -, -, -, -, -⟩ := h
  cases s
  cases t
  simp_all

/-! ## The place in the queue -/

theorem takeWhile_congr_mem {α : Type} {p q : α → Bool} {l : List α} (h : ∀ x ∈ l, p x = q x) :
    l.takeWhile p = l.takeWhile q ∧ l.dropWhile p = l.dropWhile q := by
  induction l with
  | nil => exact ⟨rfl, rfl⟩
  | cons x l ih =>
    obtain ⟨take, drop⟩ := ih fun y hy => h y (List.mem_cons_of_mem x hy)
    rw [List.takeWhile_cons, List.takeWhile_cons, List.dropWhile_cons, List.dropWhile_cons, h x List.mem_cons_self, take, drop]
    exact ⟨rfl, rfl⟩

/-- The queue after a placement, when the orders that stand in it are those of another state. -/
theorem placed_eq_queueWith {s : State} {t : OrderTable} {o : Order} (queues : t.queues = s.table.queues)
    (others : ∀ u, u ≠ o.tag → t.find u = s.table.find u) (absent : o.tag ∉ s.table.queue o.node) :
    t.placed o = s.queueWith o.node o.cls o.tag := by
  have stands (u : Byte) (hu : u ∈ s.table.queue o.node) : (match t.find u with
      | some q => decide (q.state = .active) || decide (q.cls = .urgent)
      | none => false) = s.standsBefore u := by
    rw [others u fun e => absent (e ▸ hu)]
    rfl
  obtain ⟨take, drop⟩ := takeWhile_congr_mem stands
  have queue : t.queues[o.node] = s.table.queue o.node := congrArg (fun v : Vector (List Byte) 24 => v[o.node]) queues
  unfold State.queueWith
  refine (upd_same t.queues o.node _).trans ?_
  rw [queue]
  cases o.cls with
  | routine => rfl
  | urgent => exact congrArg₂ (fun a b => a ++ o.tag :: b) take drop

/-! ## The entry into QUEUED -/

/-- The entry of a live order into QUEUED, block by block (R8, R121, R160). -/
theorem enterQueued_found {s : State} {o : Order} (found : s.table.find o.tag = some o) : s.enterQueued o.tag =
    (({ s with table := s.table.entered o.tag }).wake (trunkOf o.node)).raisePeak (trunkOf o.node) := by
  have queued := OrderTable.find_update_same (f := fun o => { o with state := .queued }) (fun _ => rfl) found
  unfold State.enterQueued
  dsimp only
  rw [State.modTable_table, queued, OrderTable.entered_eq found]
  rfl

/-- An order that has entered QUEUED from a state whose other orders, queues, trunks and meters are those of `s`. -/
theorem enterQueued_entersQueue {s h b : State} {w : Order} (found : b.table.find w.tag = some w)
    (others : ∀ u, u ≠ w.tag → b.table.find u = s.table.find u) (queues : b.table.queues = s.table.queues)
    (backlog : b.table.backlog = s.table.backlog) (trunks : b.trunks = s.trunks) (meters : b.meters = s.meters)
    (absent : w.tag ∉ s.table.queue w.node) (rest : b = { h with table := b.table, pool := b.pool })
    (count : (s.table.live.map Order.tag).Nodup → ((b.table.entered w.tag).live.filter fun o =>
      decide (trunkOf o.node = trunkOf w.node) && decide (o.state = .queued)).length = s.currentBacklog (trunkOf w.node) + 1) :
    s.entersQueue h { w with state := .queued } (b.enterQueued w.tag) := by
  have table : (b.enterQueued w.tag).table = b.table.entered w.tag := State.enterQueued_table _ _
  have other (u : Byte) (e : u ≠ w.tag) :
      (b.table.update w.tag fun o => { o with state := .queued }).find u = s.table.find u :=
    (OrderTable.find_update_other (f := fun o => { o with state := .queued }) (fun _ => rfl) e).trans (others u e)
  refine ⟨?_, fun u e => ?_, fun m => ?_, ?_, fun m => ?_, fun m => ?_, fun once => ?_, ?_⟩
  · rw [table, OrderTable.entered_eq found]
    exact OrderTable.find_update_same (f := fun o => { o with state := .queued }) (fun _ => rfl) found
  · rw [table, OrderTable.entered_eq found]
    exact other u e
  · rw [table, OrderTable.entered_eq found, OrderTable.enqueue_queue]
    refine ite_congr rfl (fun _ => ?_) fun _ => ?_
    · exact placed_eq_queueWith (o := { w with state := .queued }) queues other absent
    · exact congrArg (fun v : Vector (List Byte) 24 => v[m]) queues
  · rw [table, OrderTable.entered_backlog, backlog]
  · rw [enterQueued_found found]
    refine (State.wake_get (trunkOf w.node) m { b with table := b.table.entered w.tag }).trans ?_
    show (if m = trunkOf w.node ∧ b.trunks[trunkOf w.node].state = .quiet then
      { b.trunks[trunkOf w.node] with state := .active, wait := .none, idleCount := 0 } else b.trunks[m]) = _
    rw [trunks]
  · have peak : (b.enterQueued w.tag).currentBacklog (trunkOf w.node) =
        (({ b with table := b.table.entered w.tag }).wake (trunkOf w.node)).currentBacklog (trunkOf w.node) := by
      rw [enterQueued_found found]
      rfl
    rw [peak, enterQueued_found found, State.wake_eq]
    refine (upd_get b.meters (trunkOf w.node) m _).trans ?_
    rw [meters]
    split
    · subst m
      rfl
    · rfl
  · unfold State.currentBacklog
    rw [table]
    exact count once
  · have blocks := State.enterQueued_eq w.tag b
    have pool : (b.enterQueued w.tag).pool = b.pool := by rw [blocks]
    rw [pool]
    exact blocks.trans (congrArg (fun c : State => ({ c with
      table := (b.enterQueued w.tag).table, trunks := (b.enterQueued w.tag).trunks
      meters := (b.enterQueued w.tag).meters } : State)) rest)

/-- What stands after the trunk-free event of the same event (R76). -/
structure State.EnteredAndFreed (s h q : State) (o : Order) (u : State) : Prop where
  entry : u.table.find o.tag = some o ∨ u.table.find o.tag = some { o with state := .active }
  queue : u.table.queue o.node = s.queueWith o.node o.cls o.tag
  queues : ∀ m : NodeId, m ≠ o.node → u.table.queue m = s.table.queue m
  backlog : u.table.backlog = s.table.backlog
  pool : u.pool = q.pool
  meters : u.meters = q.meters
  state : u.trunks[trunkOf o.node].state = .active
  idleCount : u.trunks[trunkOf o.node].idleCount =
    if s.trunks[trunkOf o.node].state = .quiet then 0 else s.trunks[trunkOf o.node].idleCount
  hostLine : u.hostLine = h.hostLine
  blocks : u = { h with
    table := u.table, pool := u.pool, held := u.held, scheds := u.scheds, engines := u.engines, trunks := u.trunks
    meters := u.meters }

theorem entersQueue_freed {s h q : State} {o : Order} (entered : s.entersQueue h o q)
    (running : s.trunks[trunkOf o.node].state = .active ∨ s.trunks[trunkOf o.node].state = .quiet) :
    s.EnteredAndFreed h q o (q.trunkFree (trunkOf o.node)) := by
  obtain ⟨found, -, queues, backlog, trunks, -, -, blocks⟩ := entered
  have frame := GrantFrame.trunkFree (trunkOf o.node) q
  have queue (m : NodeId) : (q.trunkFree (trunkOf o.node)).table.queue m = q.table.queue m :=
    congrArg (fun v : Vector (List Byte) 24 => v[m]) frame.queues
  have trunk := trunks (trunkOf o.node)
  refine ⟨trunkFree_find found, ?_, fun m other => ?_, frame.backlog.trans backlog, frame.pool, frame.meters, ?_, ?_, ?_, ?_⟩
  · rw [queue, queues, if_pos rfl]
  · rw [queue, queues, if_neg other]
  · rw [frame.trunkState, trunk]
    by_cases quiet : s.trunks[trunkOf o.node].state = .quiet
    · rw [if_pos ⟨rfl, quiet⟩]
    · rw [if_neg fun c => quiet c.2]
      exact running.resolve_right quiet
  · rw [frame.idleCount, trunk]
    by_cases quiet : s.trunks[trunkOf o.node].state = .quiet
    · rw [if_pos ⟨rfl, quiet⟩, if_pos quiet]
    · rw [if_neg fun c => quiet c.2, if_neg quiet]
  · rw [frame.hostLine, blocks]
  · have kept := frame.eq
    rw [frame.pool, frame.meters]
    exact kept.trans (congrArg (fun c : State => ({ c with
      table := (q.trunkFree (trunkOf o.node)).table, held := (q.trunkFree (trunkOf o.node)).held
      scheds := (q.trunkFree (trunkOf o.node)).scheds, engines := (q.trunkFree (trunkOf o.node)).engines
      trunks := (q.trunkFree (trunkOf o.node)).trunks } : State)) blocks)

theorem State.EnteredAndFreed.replied_hostLine {s h q u : State} {o : Order} {kind : Byte} {p : List Byte}
    (freed : s.EnteredAndFreed h q o u) (taken : h = s.taken kind p) :
    (u.withReply kind .accepted [] false).hostLine = (s.answered kind p .accepted []).hostLine := by
  subst taken
  exact congrArg (fun l : HostLine => { l with reply := some ⟨kind, .accepted, [], false⟩ }) freed.hostLine

/-- With the reply fixed, the blocks that a request for an order leaves are those before it. -/
theorem State.EnteredAndFreed.replied {s h q u : State} {o : Order} {kind : Byte} {p : List Byte}
    (freed : s.EnteredAndFreed h q o u) (taken : h = s.taken kind p) :
    let t := u.withReply kind .accepted [] false
    t = { s with
      hostLine := t.hostLine, table := t.table, pool := t.pool, held := t.held, scheds := t.scheds, engines := t.engines
      trunks := t.trunks, meters := t.meters } := by
  intro t
  rw [freed.replied_hostLine taken]
  subst taken
  exact congrArg (fun c : State => c.withReply kind .accepted [] false) freed.blocks

/-! ## COMMIT_ORDER -/

/-- A change that makes one of the live orders pass a test adds one to their number. -/
theorem length_filter_changed {l : List Order} (once : (l.map Order.tag).Nodup) {w : Order} (hw : w ∈ l) {f : Order → Order}
    {p : Order → Bool} (before : p w = false) (after : p (f w) = true) :
    ((l.map fun o => if o.tag = w.tag then f o else o).filter p).length = (l.filter p).length + 1 := by
  induction l with
  | nil => cases hw
  | cons x l ih =>
    obtain ⟨fresh, once⟩ := List.nodup_cons.1 once
    rw [List.map_cons]
    rcases List.mem_cons.1 hw with rfl | hw
    · have same : (l.map fun o => if o.tag = w.tag then f o else o) = l := by
        refine (List.map_congr_left fun o ho => if_neg fun e => fresh ?_).trans l.map_id
        exact List.mem_map.2 ⟨o, ho, e⟩
      rw [if_pos rfl, same, List.filter_cons, List.filter_cons, after, before]
      rfl
    · rw [if_neg fun e => fresh (List.mem_map.2 ⟨w, hw, e.symm⟩), List.filter_cons, List.filter_cons]
      split
      · rw [List.length_cons, List.length_cons, ih once hw]
      · exact ih once hw

theorem setOwner_fold (o : Owner) (l : List SegId) (p : SegmentPool) :
    (l.foldl (fun p g => p.setOwner o g) p).freeList = p.freeList ∧ (l.foldl (fun p g => p.setOwner o g) p).mem = p.mem := by
  induction l generalizing p with
  | nil => exact ⟨rfl, rfl⟩
  | cons g l ih => exact ih (p.setOwner o g)

/-- The order of a FILLING entry enters QUEUED at its commit. -/
theorem commitPlaced_entersQueue {s h : State} {o : Order} (found : s.table.find o.tag = some o) (filling : o.state = .filling)
    (absent : o.tag ∉ s.table.queue o.node) (table : h.table = s.table) (trunks : h.trunks = s.trunks)
    (meters : h.meters = s.meters) : s.entersQueue h { o with state := .queued } (commitPlaced o h) := by
  have found' : h.table.find o.tag = some o := table ▸ found
  refine enterQueued_entersQueue (b := h.modPool fun p => o.chain.foldl (fun p g => p.setOwner .trunkSide g) p) found'
    (fun u _ => ?_) ?_ ?_ trunks meters absent rfl fun once => ?_
  · exact congrArg (fun t : OrderTable => t.find u) table
  · exact congrArg OrderTable.queues table
  · exact congrArg OrderTable.backlog table
  · rw [State.modPool_table, table, OrderTable.entered_eq found, OrderTable.enqueue_live, OrderTable.live_update]
    exact length_filter_changed once (OrderTable.find_some found).1 (by simp [filling]) (by simp)

theorem trunkRefuses_eq (s : State) (n : NodeId) : s.trunkRefuses n = true ↔
    ¬ (s.trunks[trunkOf n].state = .active ∨ s.trunks[trunkOf n].state = .quiet) := by
  unfold State.trunkRefuses
  cases s.trunks[trunkOf n].state <;> simp [TrunkState.unavailable]

theorem nodeRefuses_eq (s : State) (n : NodeId) : s.nodeRefuses n = true ↔
    ¬ (s.nodes[n].state = .unseen ∨ s.nodes[n].state = .online) := by
  unfold State.nodeRefuses
  rw [Bool.not_eq_true', Bool.eq_false_iff, ne_eq, NodeState.inService_iff]

/-- Settles O19: the tests in their order, then the entry into QUEUED. -/
theorem commitOrderEffect : Obligations.CommitOrderEffect := by
  refine ⟨tagRequest_refusesBadForms fun _ _ => rfl, fun tag s hs named => ?_⟩
  have refused {c : OutcomeCode} (hc : c ≠ .accepted)
      (h : reqCommitOrder [tag] (s.taken 0x12 [tag]) = refuse c (s.taken 0x12 [tag])) :=
    exec_refused (mk := .commitOrder) hs (by simp) rfl hc h
  refine ⟨fun absent => refused (by decide) (tagRequest_absent hs 0x12 named absent _), fun o found => ?_⟩
  have body : reqCommitOrder [tag] (s.taken 0x12 [tag]) = _ := tagRequest_found hs 0x12 named found _
  obtain rfl : o.tag = tag := (OrderTable.find_some found).2
  have trunk : (s.taken 0x12 [o.tag]).trunkRefuses o.node = true ↔ _ := trunkRefuses_eq _ o.node
  have node : (s.taken 0x12 [o.tag]).nodeRefuses o.node = true ↔ _ := nodeRefuses_eq _ o.node
  have first (filling : o.state = .filling) := body.trans (firstOf_fails (decide_eq_false (not_not_intro filling)) _ _ _ _)
  have second (filling : o.state = .filling) (full : o.length ≤ o.fill) :=
    (first filling).trans (firstOf_fails (decide_eq_false (not_lt.2 full)) _ _ _ _)
  have third (filling : o.state = .filling) (full : o.length ≤ o.fill)
      (running : s.trunks[trunkOf o.node].state = .active ∨ s.trunks[trunkOf o.node].state = .quiet) :=
    (second filling full).trans (firstOf_fails (Bool.eq_false_iff.2 fun c => trunk.1 c running) _ _ _ _)
  have fourth (filling : o.state = .filling) (full : o.length ≤ o.fill)
      (running : s.trunks[trunkOf o.node].state = .active ∨ s.trunks[trunkOf o.node].state = .quiet)
      (service : s.nodes[o.node].state = .unseen ∨ s.nodes[o.node].state = .online) :=
    (third filling full running).trans (firstOf_fails (Bool.eq_false_iff.2 fun c => node.1 c service) _ _ _ _)
  refine ⟨fun h => ?_, fun filling h => ?_, fun filling full h => ?_, fun filling full running h => ?_,
    fun filling full running service h => ?_, fun filling full running service room absent => ?_⟩
  · exact refused (by decide) (body.trans (firstOf_holds (decide_eq_true h) _ _ _ _))
  · exact refused (by decide) ((first filling).trans (firstOf_holds (decide_eq_true h) _ _ _ _))
  · exact refused (by decide) ((second filling full).trans (firstOf_holds (trunk.2 h) _ _ _ _))
  · exact refused (by decide) ((third filling full running).trans (firstOf_holds (node.2 h) _ _ _ _))
  · exact refused (by decide) ((fourth filling full running service).trans (firstOf_holds (decide_eq_true h) _ _ _ _))
  · have run := exec_accepted (mk := .commitOrder) hs (by simp) rfl (by decide)
      ((fourth filling full running service).trans (firstOf_fails (decide_eq_false (not_le.2 room)) _ _ _ _))
    have entered := commitPlaced_entersQueue (h := s.taken 0x12 [o.tag]) found filling absent rfl rfl rfl
    have freed := entersQueue_freed entered running
    have pool : (commitPlaced o (s.taken 0x12 [o.tag])).pool = o.chain.foldl (fun p g => p.setOwner .trunkSide g) s.pool :=
      commitPlaced_pool o _
    obtain ⟨freeList, mem⟩ := setOwner_fold .trunkSide o.chain s.pool
    have seg (g : SegId) : (o.chain.foldl (fun p g => p.setOwner .trunkSide g) s.pool).seg g =
        if g ∈ o.chain ∧ (s.pool.seg g).owner ≠ .free then { s.pool.seg g with owner := .trunkSide } else s.pool.seg g := by
      rw [commit_seg, ite_and, Segment.committed]
      simp only [ite_not]
    rw [← pool] at seg freeList mem
    rw [← freed.pool] at seg freeList mem
    exact ⟨_, run, freed.replied_hostLine rfl, freed.entry, freed.queue, freed.queues, freed.backlog, seg, freeList, mem,
      freed.state, freed.replied rfl, commitPlaced o (s.taken 0x12 [o.tag]), rfl, entered, freed.pool.symm⟩

end Sys2Proof.Machine
end

section
/-! PROOFS. SUBMIT_ORDER: the form of its payload (R4), the tests (R5) and the effect (R6). -/

namespace Sys2Proof.Machine

open Sys2Proof

/-! ## The fields of the payload (R4) -/

theorem orderKindOf_eq_some (b : Byte) (k : OrderKind) : orderKindOf b = some k ↔ b.toNat = k.code.toNat := by
  unfold orderKindOf
  generalize b.toNat = n
  constructor
  · intro h
    split at h <;> cases h <;> rfl
  · rintro rfl
    cases k <;> rfl

theorem orderKindOf_code (k : OrderKind) : orderKindOf k.code = some k := (orderKindOf_eq_some _ _).2 rfl

theorem orderClassOf_code (c : OrderClass) : orderClassOf c.code = some c := by cases c <;> rfl

theorem orderClassOf_isSome (b : Byte) : (orderClassOf b).isSome = true ↔ b.toNat ≤ 1 := by
  unfold orderClassOf
  generalize b.toNat = n
  match n with
  | 0 => exact iff_of_true rfl (by omega)
  | 1 => exact iff_of_true rfl (by omega)
  | n + 2 => exact iff_of_false Bool.false_ne_true (by omega)

/-- The field checks that depend on the kind (R3, R4). -/
def KindFields (k : OrderKind) (p : List Byte) : Prop :=
  byteAt p 0 ≠ 0 ∧ k.lengthOk (pairAt p 6) = true ∧ (byteAt p 11).toNat = (if k = .pointWrite then pairAt p 6 else 0) ∧
    (k.hasPoint = true ∨ wordAt p 4 = 0) ∧ (k = .echoTest ∨ byteAt p 10 = 0)

/-- The order that a payload describes, once its kind, node and class are read (R6). -/
def payloadOrder (n : NodeId) (k : OrderKind) (c : OrderClass) (p : List Byte) (now : Word) : Order where
  tag := byteAt p 0
  node := n
  kind := k
  cls := c
  point := if k.hasPoint then some (wordAt p 4) else none
  length := pairAt p 6
  inlineData := p.drop 12
  seed := if k = .echoTest then some (byteAt p 10) else none
  deadline := if wordAt p 8 = 0 then none else some (wordAt p 8).toNat
  accepted := now
  chain := []
  fill := 0
  progress := 0
  retries := 0
  mark := none
  result := none
  nakReason := 0
  endStamp := 0
  state := if k = .bulkSend then .filling else .queued

theorem submittedOrder_eq_some (p : List Byte) (now : Word) (o : Order) : submittedOrder p now = some o ↔
    ∃ n k c, nodeOfByte (byteAt p 1) = some n ∧ orderKindOf (byteAt p 2) = some k ∧ orderClassOf (byteAt p 3) = some c ∧
      KindFields k p ∧ payloadOrder n k c p now = o := by
  unfold submittedOrder KindFields payloadOrder
  rw [wordAt_toNat]
  dsimp only
  cases nodeOfByte (byteAt p 1) with
  | none => simp
  | some n =>
    cases orderKindOf (byteAt p 2) with
    | none => simp
    | some k =>
      cases orderClassOf (byteAt p 3) with
      | none => simp
      | some c =>
        rw [Option.ite_none_right_eq_some]
        constructor
        · rintro ⟨fields, entry⟩
          exact ⟨n, k, c, rfl, rfl, rfl, fields, Option.some.inj entry⟩
        · rintro ⟨_, _, _, ⟨⟩, ⟨⟩, ⟨⟩, fields, entry⟩
          exact ⟨fields, congrArg some entry⟩

theorem submittedOrder_isSome (p : List Byte) (now : Word) : (submittedOrder p now).isSome = true ↔
    (byteAt p 1).toNat ≤ 23 ∧ (byteAt p 3).toNat ≤ 1 ∧ ∃ k : OrderKind, (byteAt p 2).toNat = k.code.toNat ∧ KindFields k p := by
  rw [← nodeOfByte_isSome, ← orderClassOf_isSome]
  simp only [Option.isSome_iff_exists, submittedOrder_eq_some, ← orderKindOf_eq_some]
  constructor
  · rintro ⟨o, n, k, c, node, kind, cls, fields, -⟩
    exact ⟨⟨n, node⟩, ⟨c, cls⟩, k, kind, fields⟩
  · rintro ⟨⟨n, node⟩, ⟨c, cls⟩, k, kind, fields⟩
    exact ⟨_, n, k, c, node, kind, cls, fields, rfl⟩

theorem wordAt_eq_zero (p : List Byte) (i : Nat) : wordAt p i = 0 ↔ pairAt p i = 0 := by
  rw [← wordAt_toNat]
  exact (BitVec.toNat_inj (y := (0 : Word))).symm

theorem byte_eq_zero (b : Byte) : b = 0 ↔ b.toNat = 0 := (BitVec.toNat_inj (y := (0 : Byte))).symm

/-- The field checks of R4 by the number of the kind. -/
theorem kindFields_iff (p : List Byte) : (∃ k : OrderKind, (byteAt p 2).toNat = k.code.toNat ∧ KindFields k p) ↔
    byteAt p 0 ≠ 0 ∧ (1 ≤ (byteAt p 2).toNat ∧ (byteAt p 2).toNat ≤ 6) ∧
      ((byteAt p 2).toNat = 1 ∨ (byteAt p 2).toNat = 2 → 1 ≤ pairAt p 6 ∧ pairAt p 6 ≤ 16) ∧
      ((byteAt p 2).toNat = 3 ∨ (byteAt p 2).toNat = 4 → 1 ≤ pairAt p 6 ∧ pairAt p 6 ≤ 2048) ∧
      ((byteAt p 2).toNat = 5 → 1 ≤ pairAt p 6 ∧ pairAt p 6 ≤ 256) ∧ ((byteAt p 2).toNat = 6 → pairAt p 6 = 0) ∧
      ((byteAt p 2).toNat = 2 → (byteAt p 11).toNat = pairAt p 6) ∧ ((byteAt p 2).toNat ≠ 2 → byteAt p 11 = 0) ∧
      ((byteAt p 2).toNat ≠ 1 → (byteAt p 2).toNat ≠ 2 → pairAt p 4 = 0) ∧ ((byteAt p 2).toNat ≠ 5 → byteAt p 10 = 0) := by
  have kinds (q : OrderKind → Prop) : (∃ k, q k) ↔
      q .pointRead ∨ q .pointWrite ∨ q .bulkSend ∨ q .bulkFetch ∨ q .echoTest ∨ q .nodeReset :=
    ⟨by rintro ⟨k, h⟩; cases k <;> simp [h], by rintro (h | h | h | h | h | h) <;> exact ⟨_, h⟩⟩
  rw [kinds]
  simp only [KindFields, OrderKind.lengthOk, OrderKind.hasPoint, OrderKind.code, wordAt_eq_zero, byte_eq_zero (byteAt p 11),
    decide_eq_true_eq, reduceCtorEq, if_true, if_false, Bool.false_eq_true, BitVec.reduceToNat]
  generalize (byteAt p 2).toNat = k
  generalize pairAt p 6 = length
  generalize (byteAt p 11).toNat = count
  constructor
  · rintro (h | h | h | h | h | h) <;> obtain ⟨rfl, h⟩ := h <;> simp_all
  · rintro ⟨named, ⟨low, high⟩, h⟩
    obtain rfl | rfl | rfl | rfl | rfl | rfl : k = 1 ∨ k = 2 ∨ k = 3 ∨ k = 4 ∨ k = 5 ∨ k = 6 := by omega
    all_goals simp_all

theorem submitOrder_refusesBadForms : RefusesBadForms .submitOrder 0x10
    (fun p => 12 ≤ p.length ∧ p.length = 12 + (byteAt p 11).toNat)
    (fun p =>
      let k := (byteAt p 2).toNat
      let length := pairAt p 6
      byteAt p 0 ≠ 0 ∧ (byteAt p 1).toNat ≤ 23 ∧ (1 ≤ k ∧ k ≤ 6) ∧ (byteAt p 3).toNat ≤ 1 ∧
      (k = 1 ∨ k = 2 → 1 ≤ length ∧ length ≤ 16) ∧ (k = 3 ∨ k = 4 → 1 ≤ length ∧ length ≤ 2048) ∧
      (k = 5 → 1 ≤ length ∧ length ≤ 256) ∧ (k = 6 → length = 0) ∧
      (k = 2 → (byteAt p 11).toNat = length) ∧ (k ≠ 2 → byteAt p 11 = 0) ∧
      (k ≠ 1 → k ≠ 2 → pairAt p 4 = 0) ∧ (k ≠ 5 → byteAt p 10 = 0)) := by
  refine refusesBadForms_of (req := reqSubmitOrder) (l := submitLengthOk) (f := fun p => (submittedOrder p 0).isSome)
    (fun _ _ => rfl) (fun _ _ => ⟨_, rfl⟩) (fun p => ?_) fun p _ => ?_
  · rw [submitLengthOk, Bool.and_eq_true_iff, decide_eq_true_iff, decide_eq_true_iff]
  · rw [submittedOrder_isSome, kindFields_iff]
    constructor
    · rintro ⟨node, cls, named, range, rest⟩
      exact ⟨named, node, range, cls, rest⟩
    · rintro ⟨named, node, range, cls, rest⟩
      exact ⟨node, cls, named, range, rest⟩

/-! ## A payload in its form -/

section

variable {tag : Byte} {n : NodeId} {k : OrderKind} {c : OrderClass} {point length deadline : Word} {seed : Byte} {data : List Byte}

/-- The segments that an order of this kind and length needs (R3). -/
def OrderKind.need (k : OrderKind) (length : Nat) : Nat := if k.isBulk then segmentsFor length else 0

theorem OrderKind.need_eq (k : OrderKind) (length : Nat) [Decidable (k = .bulkSend ∨ k = .bulkFetch)] :
    k.need length = if k = .bulkSend ∨ k = .bulkFetch then (length + 255) / 256 else 0 := by
  unfold OrderKind.need
  by_cases bulk : k.isBulk = true
  · rw [if_pos bulk, if_pos ((OrderKind.isBulk_iff k).1 bulk)]
    rfl
  · rw [if_neg bulk, if_neg (mt (OrderKind.isBulk_iff k).2 bulk)]

theorem submitPayload_data_length (ok : submitFieldsOk tag k point length seed data) : data.length ≤ 16 := by
  obtain ⟨-, range, count, -, -⟩ := ok
  rw [count]
  split
  · subst k
    simp only [OrderKind.lengthOk, decide_eq_true_eq] at range
    exact range.2
  · omega

theorem submitPayload_length : (submitPayload tag n k c point length deadline seed data).length = 12 + data.length := by
  simp [submitPayload, leWord]
  omega

theorem submitPayload_submittedOrder (ok : submitFieldsOk tag k point length seed data) (now : Word) :
    submittedOrder (submitPayload tag n k c point length deadline seed data) now =
      some (submittedEntry tag n k c point length deadline seed data now []) := by
  have few := submitPayload_data_length ok
  obtain ⟨named, range, count, noPoint, noSeed⟩ := ok
  have pointWord : wordAt (submitPayload tag n k c point length deadline seed data) 4 = point := wordOfBytes point
  have lengthWord : wordAt (submitPayload tag n k c point length deadline seed data) 6 = length := wordOfBytes length
  have deadlineWord : wordAt (submitPayload tag n k c point length deadline seed data) 8 = deadline := wordOfBytes deadline
  have lengthPair : pairAt (submitPayload tag n k c point length deadline seed data) 6 = length.toNat := by
    rw [← wordAt_toNat, lengthWord]
  have counted : (byteAt (submitPayload tag n k c point length deadline seed data) 11).toNat = data.length := by
    show (byteOf data.length).toNat = data.length
    simp [byteOf]
    omega
  refine (submittedOrder_eq_some _ _ _).2 ⟨n, k, c, nodeOfByte_byteOf n, orderKindOf_code k, orderClassOf_code c,
    ⟨named, ?_, ?_, ?_, noSeed⟩, ?_⟩
  · rw [lengthPair]
    exact range
  · rw [lengthPair, counted, count]
  · rw [pointWord]
    cases k <;> simp_all [OrderKind.hasPoint]
  · unfold payloadOrder submittedEntry
    rw [pointWord, lengthPair, deadlineWord]
    congr 1
    cases k <;> simp [OrderKind.hasPoint]

theorem reqSubmitOrder_taken {s : State} (hs : s.serves) (ok : submitFieldsOk tag k point length seed data) :
    let p := submitPayload tag n k c point length deadline seed data
    let o := submittedEntry tag n k c point length deadline seed data s.interval.tick []
    reqSubmitOrder p (s.taken 0x10 p) =
      firstOf (submitTests o (s.taken 0x10 p)) (fun s => accept (submitEffect o s)) (s.taken 0x10 p) := by
  have long := submitPayload_length (tag := tag) (n := n) (k := k) (c := c) (point := point) (length := length)
    (deadline := deadline) (seed := seed) (data := data)
  have few := submitPayload_data_length ok
  have form (now : Word) := submitPayload_submittedOrder (n := n) (c := c) (deadline := deadline) ok now
  intro p o
  have counted : (byteAt p 11).toNat = data.length := by
    show (byteOf data.length).toNat = data.length
    simp [byteOf]
    omega
  unfold reqSubmitOrder
  rw [checked_pass ?_ ?_ (gateReady_taken hs _ _)]
  · have form' : submittedOrder p (s.taken 0x10 p).interval.tick = some o := form _
    rw [form']
  · rw [submitLengthOk, Bool.and_eq_true_iff, decide_eq_true_iff, decide_eq_true_iff, counted]
    exact ⟨long ▸ Nat.le_add_right 12 _, long⟩
  · rw [form]
    rfl

end

/-! ## The tests (R5) -/

theorem OrderTable.hasFree_iff (t : OrderTable) : t.hasFree = true ↔ ∃ i : Fin 48, t.entries[i] = none := by
  unfold OrderTable.hasFree
  simp only [List.any_eq_true, Vector.mem_toList_iff, Vector.mem_iff_getElem, Option.isNone_iff_eq_none]
  constructor
  · rintro ⟨e, ⟨i, hi, rfl⟩, free⟩
    exact ⟨⟨i, hi⟩, free⟩
  · rintro ⟨i, free⟩
    exact ⟨_, ⟨i.val, i.isLt, rfl⟩, free⟩

/-- The first test that holds gives the refusal (R5); when none holds the effect follows. -/
theorem submitTests_outcome (o : Order) (body : State → Answer) (s : State) :
    let trunkOk := s.trunks[trunkOf o.node].state = .active ∨ s.trunks[trunkOf o.node].state = .quiet
    let nodeOk := s.nodes[o.node].state = .unseen ∨ s.nodes[o.node].state = .online
    let queueOk := o.kind = .bulkSend ∨ (s.table.queue o.node).length < 6
    let short := (o.kind = .bulkSend ∨ o.kind = .bulkFetch) ∧ s.pool.freeList.length < (o.length + 255) / 256
    let answer := firstOf (submitTests o s) body s
    (s.table.find o.tag ≠ none → answer = refuse .tagBusy s) ∧
    (s.table.find o.tag = none → (∀ i : Fin 48, s.table.entries[i] ≠ none) → answer = refuse .tableFull s) ∧
    (s.table.find o.tag = none → (∃ i : Fin 48, s.table.entries[i] = none) →
      (¬ trunkOk → answer = refuse .trunkUnavailable s) ∧
      (trunkOk → ¬ nodeOk → answer = refuse .nodeUnavailable s) ∧
      (trunkOk → nodeOk → ¬ queueOk → answer = refuse .nodeQueueFull s) ∧
      (trunkOk → nodeOk → queueOk → short → answer = refuse .poolEmpty s) ∧
      (trunkOk → nodeOk → queueOk → ¬ short → answer = body s)) := by
  intro trunkOk nodeOk queueOk short answer
  have free := OrderTable.hasFree_iff s.table
  have trunk := trunkRefuses_eq s o.node
  have node := nodeRefuses_eq s o.node
  have full : (decide (o.kind ≠ .bulkSend) && s.queueFull o.node) = true ↔ ¬ queueOk := by
    rw [Bool.and_eq_true_iff, decide_eq_true_iff, not_or, not_lt]
    exact and_congr_right' decide_eq_true_iff
  have few : (o.kind.isBulk && decide (s.pool.freeList.length < segmentsFor o.length)) = true ↔ short := by
    rw [Bool.and_eq_true_iff, OrderKind.isBulk_iff, decide_eq_true_iff]
    rfl
  have first (fresh : s.table.find o.tag = none) : answer = firstOf (submitTests o s).tail body s :=
    firstOf_fails (by rw [fresh]; rfl) _ _ _ _
  have second (fresh : s.table.find o.tag = none) (room : ∃ i : Fin 48, s.table.entries[i] = none) :
      answer = firstOf (submitTests o s).tail.tail body s :=
    (first fresh).trans (firstOf_fails (by rw [free.2 room]; rfl) _ _ _ _)
  refine ⟨fun busy => firstOf_holds (Option.isSome_iff_ne_none.2 busy) _ _ _ _, fun fresh noRoom => ?_, fun fresh room => ?_⟩
  · refine (first fresh).trans (firstOf_holds ?_ _ _ _ _)
    rw [Bool.not_eq_true', Bool.eq_false_iff]
    exact fun c => (free.1 c).elim noRoom
  · have third (running : trunkOk) : answer = firstOf (submitTests o s).tail.tail.tail body s :=
      (second fresh room).trans (firstOf_fails (Bool.eq_false_iff.2 fun c => trunk.1 c running) _ _ _ _)
    have fourth (running : trunkOk) (service : nodeOk) : answer = firstOf (submitTests o s).tail.tail.tail.tail body s :=
      (third running).trans (firstOf_fails (Bool.eq_false_iff.2 fun c => node.1 c service) _ _ _ _)
    have fifth (running : trunkOk) (service : nodeOk) (place : queueOk) :
        answer = firstOf (submitTests o s).tail.tail.tail.tail.tail body s :=
      (fourth running service).trans (firstOf_fails (Bool.eq_false_iff.2 fun c => full.1 c place) _ _ _ _)
    exact ⟨fun h => (second fresh room).trans (firstOf_holds (trunk.2 h) _ _ _ _),
      fun running h => (third running).trans (firstOf_holds (node.2 h) _ _ _ _),
      fun running service h => (fourth running service).trans (firstOf_holds (full.2 h) _ _ _ _),
      fun running service place h => (fifth running service place).trans (firstOf_holds (few.2 h) _ _ _ _),
      fun running service place h =>
        (fifth running service place).trans (firstOf_fails (Bool.eq_false_iff.2 (mt few.1 h)) _ _ _ _)⟩

/-- Settles O16: the checks, then the tests in their order. -/
theorem submitOrderRefusals : Obligations.SubmitOrderRefusals := by
  refine ⟨submitOrder_refusesBadForms, fun tag n k c point length deadline seed data s hs ok => ?_⟩
  have few := submitPayload_data_length ok
  have refused {o : OutcomeCode} (ho : o ≠ .accepted) (h : _ = refuse o _) :=
    exec_refused (mk := .submitOrder) hs (by rw [submitPayload_length]; omega) rfl ho
      ((reqSubmitOrder_taken (n := n) (c := c) (deadline := deadline) hs ok).trans h)
  obtain ⟨busy, full, rest⟩ := submitTests_outcome (submittedEntry tag n k c point length deadline seed data s.interval.tick [])
    (fun s => accept (submitEffect _ s))
    (s.taken 0x10 (submitPayload tag n k c point length deadline seed data))
  refine ⟨fun h => refused (by decide) (busy h), fun fresh h => refused (by decide) (full fresh h), fun fresh room => ?_⟩
  obtain ⟨trunk, node, queue, pool, -⟩ := rest fresh room
  exact ⟨fun h => refused (by decide) (trunk h), fun running h => refused (by decide) (node running h),
    fun running service h => refused (by decide) (queue running service h),
    fun running service place bulk h => refused (by decide) (pool running service place ⟨bulk, h⟩)⟩

end Sys2Proof.Machine
end

section
/-! PROOFS. SUBMIT_ORDER accepted (R6, R8, R31). -/

namespace Sys2Proof.Machine

open Sys2Proof

/-! ## The order and its segments placed -/

/-- The state with the submitted order in the table and its segments allocated (R6, R31). -/
def State.submitted (o : Order) (s : State) : State :=
  { s with pool := s.pool.submitted o, table := s.table.add (o.withChain s.pool) }

theorem submitPlaced_send {o : Order} (send : o.kind = .bulkSend) (s : State) : submitPlaced o s = s.submitted o := by
  unfold submitPlaced State.submitted SegmentPool.submitted Order.withChain
  simp only [send, if_true]
  rfl

theorem submitPlaced_queued {o : Order} (queued : o.kind ≠ .bulkSend) (s : State) :
    submitPlaced o s = (s.submitted o).enterQueued o.tag := by
  unfold submitPlaced State.submitted SegmentPool.submitted Order.withChain
  simp only [if_neg queued]
  cases o.kind.isBulk <;> rfl

theorem submitted_pool (o : Order) (p : SegmentPool) :
    (p.submitted o).freeList = p.freeList.drop (o.kind.need o.length) ∧ (p.submitted o).mem = p.mem ∧
      ∀ g, (p.submitted o).seg g = if g ∈ p.freeList.take (o.kind.need o.length) then
        ⟨if o.kind = .bulkSend then .hostSide else .trunkSide, some o.tag, 0⟩ else p.seg g := by
  unfold SegmentPool.submitted OrderKind.need
  by_cases bulk : o.kind.isBulk = true
  · rw [if_pos bulk, if_pos bulk]
    exact ⟨rfl, rfl, SegmentPool.allocate_seg _ _ _ _⟩
  · rw [if_neg bulk, if_neg bulk]
    exact ⟨rfl, rfl, fun g => (if_neg (by simp)).symm⟩

theorem OrderTable.find_add_other {t : OrderTable} {p : Order} (free : t.hasFree = true) {u : Byte} (other : u ≠ p.tag) :
    (t.add p).find u = t.find u := by
  obtain ⟨a, b, old, new⟩ := t.live_add p free
  unfold OrderTable.find
  rw [old, new, List.find?_append, List.find?_append, List.find?_cons_of_neg (by simpa using other.symm)]

/-- The number of the live orders that pass a test after a new one has entered QUEUED. -/
theorem added_count {t : OrderTable} {w : Order} (free : t.hasFree = true) (fresh : t.find w.tag = none) (queued : w.state = .queued)
    (p : Order → Bool) (pass : p w = true) : (((t.add w).entered w.tag).live.filter p).length = (t.live.filter p).length + 1 := by
  obtain ⟨a, b, old, new⟩ := t.live_add w free
  have others {l : List Order} (part : ∀ o ∈ l, o ∈ t.live) :
      (l.map fun o => if o.tag = w.tag then { o with state := .queued } else o) = l := by
    refine (List.map_congr_left fun o ho => if_neg ?_).trans l.map_id
    exact OrderTable.find_none.1 fresh o (part o ho)
  have same : (if w.tag = w.tag then { w with state := .queued } else w) = w := by
    rw [if_pos rfl, ← queued]
  rw [OrderTable.entered_eq (OrderTable.find_add free fresh), OrderTable.enqueue_live, OrderTable.live_update, new,
    List.map_append, List.map_cons, same, others fun o ho => old ▸ List.mem_append_left b ho,
    others fun o ho => old ▸ List.mem_append_right a ho, old, List.filter_append, List.filter_append, List.filter_cons, pass]
  simp
  omega

/-- A submitted order of another kind than BULK_SEND has entered QUEUED (R8, R121, R160). -/
theorem submitPlaced_entersQueue {s : State} {o : Order} {kind : Byte} {p : List Byte} (queued : o.kind ≠ .bulkSend)
    (state : o.state = .queued) (free : s.table.hasFree = true) (fresh : s.table.find o.tag = none)
    (absent : o.tag ∉ s.table.queue o.node) :
    s.entersQueue (s.taken kind p) (o.withChain s.pool) (submitPlaced o (s.taken kind p)) ∧
      (submitPlaced o (s.taken kind p)).currentBacklog (trunkOf o.node) = s.currentBacklog (trunkOf o.node) + 1 := by
  have count := added_count (w := o.withChain s.pool) free fresh state
    (fun q => decide (trunkOf q.node = trunkOf o.node) && decide (q.state = .queued)) (by simp [Order.withChain, state])
  have same : ({ o.withChain s.pool with state := .queued } : Order) = o.withChain s.pool := by rw [← state]; rfl
  have entered := enterQueued_entersQueue (s := s) (h := s.taken kind p) (b := (s.taken kind p).submitted o)
    (w := o.withChain s.pool) (OrderTable.find_add free fresh) (fun u other => OrderTable.find_add_other free other)
    rfl rfl rfl rfl absent rfl fun _ => count
  rw [same] at entered
  rw [submitPlaced_queued queued]
  refine ⟨entered, ?_⟩
  unfold State.currentBacklog
  rw [State.enterQueued_table]
  exact count

/-- Settles O17: a BULK_SEND waits FILLING, and every other order enters QUEUED. -/
theorem submitOrderAccepted : Obligations.SubmitOrderAccepted := by
  intro tag n k c point length deadline seed data s hs ok fresh room running service place absent bulk need enough p chain o
  have few := submitPayload_data_length ok
  have needed : need = k.need length.toNat := (OrderKind.need_eq k _).symm
  obtain ⟨e, he⟩ : ∃ e, e = submittedEntry tag n k c point length deadline seed data s.interval.tick [] := ⟨_, rfl⟩
  have withChain : e.withChain s.pool = o := by
    rw [he]
    show _ = submittedEntry tag n k c point length deadline seed data s.interval.tick (s.pool.freeList.take need)
    rw [needed]
    rfl
  have kind : e.kind = k := by rw [he]; rfl
  have state : e.state = if k = .bulkSend then .filling else .queued := by rw [he]; rfl
  have free := (OrderTable.hasFree_iff s.table).2 room
  have taken : (s.pool.submitted e).freeList = s.pool.freeList.drop need ∧ (s.pool.submitted e).mem = s.pool.mem ∧
      ∀ g, (s.pool.submitted e).seg g = if g ∈ chain then
        ⟨if k = .bulkSend then .hostSide else .trunkSide, some tag, 0⟩ else s.pool.seg g := by
    have pool := submitted_pool e s.pool
    rw [kind] at pool
    show _ ∧ _ ∧ ∀ g, _ = if g ∈ s.pool.freeList.take need then _ else _
    rw [needed]
    rw [he] at pool ⊢
    exact pool
  obtain ⟨freeList, mem, seg⟩ := taken
  have run : exec (.submitOrder p) s = .next ((submitEffect e (s.taken 0x10 p)).withReply 0x10 .accepted [] false) := by
    refine exec_accepted (mk := .submitOrder) hs (by rw [submitPayload_length]; omega) rfl (by decide)
      ((reqSubmitOrder_taken (n := n) (c := c) (deadline := deadline) hs ok).trans ?_)
    rw [← he]
    obtain ⟨-, -, rest⟩ := submitTests_outcome e (fun s => accept (submitEffect e s)) (s.taken 0x10 p)
    rw [he] at rest ⊢
    obtain ⟨-, -, -, -, pass⟩ := rest fresh room
    refine pass running service place fun short => ?_
    have : need = (length.toNat + 255) / 256 := if_pos short.1
    exact absurd short.2 (not_lt.2 (this ▸ enough))
  refine ⟨_, run, ?_⟩
  rw [submitEffect_eq, kind]
  by_cases send : k = .bulkSend
  · rw [if_pos send, submitPlaced_send (kind.trans send)]
    have table : ((s.taken 0x10 p).submitted e).table = s.table.add o := by rw [← withChain]; rfl
    refine ⟨rfl, freeList, mem, seg, rfl, fun m _ => rfl, fun _ => ⟨?_, rfl, fun u other => ?_, rfl⟩, fun c => absurd send c⟩
    · exact (congrArg (fun t : OrderTable => t.find tag) table).trans (OrderTable.find_add (p := o) free fresh)
    · exact (congrArg (fun t : OrderTable => t.find u) table).trans (OrderTable.find_add_other (p := o) free other)
  · rw [if_neg send]
    rw [if_neg send] at state
    have tag_ : e.tag = tag := by rw [he]; rfl
    have node : e.node = n := by rw [he]; rfl
    obtain ⟨entered, backlog⟩ := submitPlaced_entersQueue (kind := 0x10) (p := p) (kind ▸ send) state free
      (tag_.symm ▸ fresh) (by rw [tag_, node]; exact absent)
    rw [withChain] at entered
    rw [node] at backlog ⊢
    have freed := entersQueue_freed entered running
    have pool : (submitPlaced e (s.taken 0x10 p)).pool = s.pool.submitted e := submitPlaced_pool e _
    rw [← pool] at freeList mem seg
    rw [← freed.pool] at freeList mem seg
    have ⟨_, _, _, _, _, peak, _, _⟩ := entered
    have meters := peak (trunkOf n)
    rw [← freed.meters] at meters
    refine ⟨freed.replied_hostLine rfl, freeList, mem, seg, freed.backlog, freed.queues, fun c => absurd c send, fun _ =>
      ⟨freed.entry, freed.queue, freed.state, freed.idleCount, meters.trans ((if_pos rfl).trans ?_), freed.replied rfl,
        submitPlaced e (s.taken 0x10 p), rfl, entered, freed.pool.symm⟩⟩
    rw [← backlog]
    rfl

end Sys2Proof.Machine
end

section
/-! PROOFS. The host line (10.3, 10.4): the bytes of a frame, the frames addressed to the part and the broadcasts. -/

namespace Sys2Proof.Machine

open Sys2Proof

/-! ## A byte on HRX -/

theorem exec_hostByte {s : State} (awake : s.startUp.part ≠ .inReset) (b : Byte) (fe : Bool) :
    exec (.hostByteReceived b fe) s = .next (receiveByte b fe (s.hrxByte fe)) := congrArg _ (if_neg awake)

theorem discardFrame_eq (s : State) : s.discardFrame = s.hunting.lineErrored := rfl

theorem receiveByte_start {s : State} (hunting : s.hostLine.receiver = .hunting) {b : Byte} {fe : Bool}
    (start : b = 0xB5 ∧ fe = false) : receiveByte b fe s =
      s.modHostLine fun h => { h with receiver := .inFrame, buffer := [b], gapTimer := true } := by
  unfold receiveByte
  rw [hunting]
  exact if_pos start

theorem receiveByte_idle {s : State} (hunting : s.hostLine.receiver = .hunting) {b : Byte} {fe : Bool}
    (other : ¬ (b = 0xB5 ∧ fe = false)) : receiveByte b fe s = s := by
  unfold receiveByte
  rw [hunting]
  exact if_neg other

theorem receiveByte_broken {s : State} (inFrame : s.hostLine.receiver = .inFrame) (b : Byte) :
    receiveByte b true s = s.hunting.lineErrored := by
  unfold receiveByte
  rw [inFrame]
  rfl

theorem receiveByte_store {s : State} (inFrame : s.hostLine.receiver = .inFrame) (b : Byte) :
    receiveByte b false s = storeByte b s := by
  unfold receiveByte
  rw [inFrame]
  rfl

theorem receiveByte_replying {s : State} (replying : s.hostLine.receiver = .replying) (b : Byte) (fe : Bool) :
    receiveByte b fe s = s.discardWhileReplying := by
  unfold receiveByte
  rw [replying]

theorem storeByte_collects {s : State} {b : Byte}
    (h : (s.bufferWith b).length < 4 ∨ ((s.bufferWith b).length = 4 ∧ b.toNat ≤ 200) ∨
      (4 < (s.bufferWith b).length ∧ (s.bufferWith b).length ≠ 5 + (byteAt (s.bufferWith b) 3).toNat)) :
    storeByte b s = s.modHostLine fun h => { h with buffer := s.bufferWith b, gapTimer := true } := by
  have short : ¬ ((s.bufferWith b).length = 4 ∧ 200 < b.toNat) := by omega
  have open_ : ¬ (4 ≤ (s.bufferWith b).length ∧ (s.bufferWith b).length = 5 + (byteAt (s.bufferWith b) 3).toNat) := by omega
  exact (if_neg short).trans (if_neg open_)

theorem storeByte_long {s : State} {b : Byte} (at_ : (s.bufferWith b).length = 4) (long : 200 < b.toNat) :
    storeByte b s = s.hunting.lineErrored := if_pos ⟨at_, long⟩

theorem storeByte_completes {s : State} {b : Byte} (long : 5 ≤ (s.bufferWith b).length)
    (last : (s.bufferWith b).length = 5 + (byteAt (s.bufferWith b) 3).toNat) :
    storeByte b s = frameComplete (s.bufferWith b) s := by
  have notLength : ¬ ((s.bufferWith b).length = 4 ∧ 200 < b.toNat) := by omega
  have complete : 4 ≤ (s.bufferWith b).length ∧ (s.bufferWith b).length = 5 + (byteAt (s.bufferWith b) 3).toNat :=
    ⟨by omega, last⟩
  exact (if_neg notLength).trans (if_pos complete)

/-- The byte that completes a frame: the frame is taken (R167, R169). -/
theorem exec_completes {s : State} {b : Byte} (h : s.completes b) :
    exec (.hostByteReceived b false) s = .next (frameComplete (s.bufferWith b) (s.hrxByte false)) := by
  obtain ⟨awake, inFrame, long, last⟩ := h
  rw [exec_hostByte awake, receiveByte_store (s := s.hrxByte false) inFrame,
    storeByte_completes (s := s.hrxByte false) long last]
  rfl

/-- Settles O5: by the receiver and the length of its buffer. -/
theorem hostByteCollectedOrDiscarded : Obligations.HostByteCollectedOrDiscarded := by
  refine ⟨fun b fe s awake hunting => ⟨fun other => ?_, fun start good => ?_⟩, fun b s awake inFrame h => ?_, fun s inFrame => ?_,
    fun b s awake inFrame => ?_, fun b s awake inFrame at_ long => ?_, fun b s h bad => ?_⟩
  · rw [exec_hostByte awake, receiveByte_idle (s := s.hrxByte fe) hunting other]
  · subst start good
    rw [exec_hostByte awake, receiveByte_start (s := s.hrxByte false) hunting ⟨rfl, rfl⟩]
    rfl
  · rw [exec_hostByte awake, receiveByte_store (s := s.hrxByte false) inFrame, storeByte_collects (s := s.hrxByte false) h]
    exact congrArg (fun r => Host.Outcome.next ({ s with hostLine := { s.hostLine with
      receiver := r, buffer := s.bufferWith b, gapTimer := true, hrxLow := false, lineHold := false } } : State)) rfl
  · exact congrArg _ (if_pos inFrame)
  · rw [exec_hostByte awake, receiveByte_broken (s := s.hrxByte true) inFrame]
  · rw [exec_hostByte awake, receiveByte_store (s := s.hrxByte false) inFrame,
      storeByte_long (s := s.hrxByte false) at_ long]
  · rw [exec_completes h]
    exact congrArg _ (if_pos bad)

/-! ## A complete frame -/

theorem frameComplete_other {s : State} {frame : List Byte} (good : byteSum frame = 0xA5)
    (addressed : (byteAt frame 1).getLsbD 7 = false) (other : (byteAt frame 1).setWidth 2 ≠ s.hostLine.unit) :
    frameComplete frame s = s.hunting := by
  unfold frameComplete
  rw [if_neg (not_not_intro good), addressed]
  exact if_neg other

theorem frameComplete_addressed {s : State} {frame : List Byte} (good : byteSum frame = 0xA5)
    (addressed : (byteAt frame 1).getLsbD 7 = false) (own : (byteAt frame 1).setWidth 2 = s.hostLine.unit) :
    frameComplete frame s = takeAddressed (byteAt frame 2) frame ((requestOf (byteAt frame 2)).getD reqUnknown)
      ((frame.drop 4).take (byteAt frame 3).toNat) s := by
  unfold frameComplete
  rw [if_neg (not_not_intro good), addressed]
  exact if_pos own

theorem frameComplete_broadcast {s : State} {frame : List Byte} (good : byteSum frame = 0xA5)
    (broadcast : (byteAt frame 1).getLsbD 7 = true) :
    frameComplete frame s = takeBroadcast (byteAt frame 2) ((frame.drop 4).take (byteAt frame 3).toNat) s.hunting := by
  unfold frameComplete
  rw [if_neg (not_not_intro good), broadcast]
  rfl

/-! ## A request command as its frame -/

/-- The state of the part with these bytes of a frame received. -/
def State.receiving (s : State) (buffer : List Byte) : State :=
  { s with hostLine := { s.hostLine with
      receiver := .inFrame, buffer := buffer, gapTimer := true, hrxLow := false, lineHold := false } }

theorem receiveBytes_cons {b : Byte} {rest : List Byte} {s t : State} (h : exec (.hostByteReceived b false) s = .next t) :
    receiveBytes (b :: rest) s = receiveBytes rest t := by
  rw [receiveBytes, h]

/-- The byte after these does not complete the frame. -/
def CollectsAfter (buffer : List Byte) (b : Byte) : Prop :=
  (buffer ++ [b]).length < 4 ∨ ((buffer ++ [b]).length = 4 ∧ b.toNat ≤ 200) ∨
    (4 < (buffer ++ [b]).length ∧ (buffer ++ [b]).length ≠ 5 + (byteAt (buffer ++ [b]) 3).toNat)

theorem receiveBytes_collects {s : State} (awake : s.startUp.part ≠ .inReset) {buffer rest : List Byte} {b : Byte}
    (h : CollectsAfter buffer b) : receiveBytes (b :: rest) (s.receiving buffer) =
      receiveBytes rest (s.receiving (buffer ++ [b])) :=
  receiveBytes_cons (hostByteCollectedOrDiscarded.2.1 b (s.receiving buffer) awake rfl h)

/-- The payload bytes of a frame, one after another. -/
theorem receiveBytes_payload {s : State} (awake : s.startUp.part ≠ .inReset) {size : Nat} (p rest buffer : List Byte)
    (header : 4 ≤ buffer.length) (length : (byteAt buffer 3).toNat = size) (room : buffer.length + p.length ≤ 4 + size) :
    receiveBytes (p ++ rest) (s.receiving buffer) = receiveBytes rest (s.receiving (buffer ++ p)) := by
  induction p generalizing buffer with
  | nil => rw [List.append_nil, List.nil_append]
  | cons b p ih =>
    rw [List.length_cons] at room
    have kept : byteAt (buffer ++ [b]) 3 = byteAt buffer 3 := byteAt_append_left (by omega)
    have collects : CollectsAfter buffer b := by
      refine .inr (.inr ⟨?_, ?_⟩)
      · rw [List.length_append, List.length_singleton]
        omega
      · rw [kept, length, List.length_append, List.length_singleton]
        omega
    rw [List.cons_append, receiveBytes_collects awake collects, ih (buffer ++ [b])
      (by rw [List.length_append]; omega) (by rw [kept, length]) (by rw [List.length_append, List.length_singleton]; omega),
      List.append_assoc, List.singleton_append]

/-- The last byte of a request command's frame: the request is taken. -/
theorem exec_lastByte {kind : Byte} {p buffer : List Byte} {s : State} {check : Byte} {req : Request} (fits : p.length ≤ 200)
    (awake : s.startUp.part ≠ .inReset) (known : requestOf kind = some req)
    (frame : buffer ++ [check] = requestFrame s.hostLine.unit kind p) :
    exec (.hostByteReceived check false) (s.receiving buffer) = .next ((req p (s.taken kind p)).fixed kind) := by
  have size : (byteOf p.length).toNat = p.length := by
    simp [byteOf]
    omega
  have length : (requestFrame s.hostLine.unit kind p).length = p.length + 5 := requestFrame_length _ _ _
  have count : (byteAt (requestFrame s.hostLine.unit kind p) 3).toNat = p.length := size
  have kindByte : byteAt (requestFrame s.hostLine.unit kind p) 2 = kind := rfl
  have payload : ((requestFrame s.hostLine.unit kind p).drop 4).take p.length = p := List.take_left
  have own : (s.hostLine.unit.setWidth 8).getLsbD 7 = false := by simp
  have unit : (s.hostLine.unit.setWidth 8).setWidth 2 = s.hostLine.unit := by simp
  have whole : (s.receiving buffer).bufferWith check = requestFrame s.hostLine.unit kind p := frame
  rw [exec_completes (s := s.receiving buffer) ⟨awake, rfl, by rw [whole, length]; omega, by rw [whole, length, count]; omega⟩,
    whole, frameComplete_addressed (s := (s.receiving buffer).hrxByte false) (requestFrame_sum _ _ _) own unit, kindByte, known, count, payload]
  rfl

/-- Settles O3: the header, the payload and the check byte in turn; the last byte completes the frame, which is addressed to the
part and good by its check. -/
theorem requestCommandIsItsFrameReceived : Obligations.RequestCommandIsItsFrameReceived := by
  intro i kind p s request fits awake hunting
  obtain ⟨req, known, run⟩ := exec_request request
  obtain ⟨unit, hu⟩ : ∃ u : Byte, u = s.hostLine.unit.setWidth 8 := ⟨_, rfl⟩
  obtain ⟨check, hc⟩ : ∃ c, c = hostCheck (0xB5#8 :: unit :: kind :: byteOf p.length :: p) := ⟨_, rfl⟩
  have frame : requestFrame s.hostLine.unit kind p = 0xB5#8 :: unit :: kind :: byteOf p.length :: (p ++ [check]) := by
    rw [hc, hu]
    rfl
  have size : (byteOf p.length).toNat = p.length := by
    simp [byteOf]
    omega
  have heard : s.hears := ⟨awake, by rw [hunting]; exact nofun⟩
  have start : exec (.hostByteReceived 0xB5#8 false) s = .next (s.receiving [0xB5#8]) :=
    (hostByteCollectedOrDiscarded.1 0xB5 false s awake hunting).2 rfl rfl
  have second : CollectsAfter [0xB5#8] unit := .inl (by simp)
  have third : CollectsAfter [0xB5#8, unit] kind := .inl (by simp)
  have fourth : CollectsAfter [0xB5#8, unit, kind] (byteOf p.length) := .inr (.inl ⟨rfl, by omega⟩)
  have length : (byteAt [0xB5#8, unit, kind, byteOf p.length] 3).toNat = p.length := size
  have last : exec (.hostByteReceived check false) (s.receiving ([0xB5#8, unit, kind, byteOf p.length] ++ p)) =
      .next ((req p (s.taken kind p)).fixed kind) := exec_lastByte fits awake known (by rw [frame]; rfl)
  rw [frame, receiveBytes_cons start, receiveBytes_collects awake second, List.singleton_append,
    receiveBytes_collects awake third, List.cons_append, List.singleton_append, receiveBytes_collects awake fourth,
    List.cons_append, List.cons_append, List.singleton_append,
    receiveBytes_payload awake p [check] [0xB5#8, unit, kind, byteOf p.length] (Nat.le_refl 4) length (Nat.le_refl _),
    receiveBytes_cons last, run, deliver_heard heard kind req fits]
  rfl

end Sys2Proof.Machine
end

section
/-! PROOFS. The reply period (R166, R172, R174), the begin of a reset (R177, R178) and its release (R178). -/

namespace Sys2Proof.Machine

open Sys2Proof

/-! ## The reply period -/

theorem exec_replyStart {s : State} {r : Reply} (replying : s.hostLine.receiver = .replying) (reply : s.hostLine.reply = some r)
    (silent : s.hostLine.htx = none) : exec .replyStart s = .next { s with hostLine := { s.hostLine with
      htx := some (replyFrame s.hostLine.unit r) } } := by
  show execReplyStart s = _
  unfold execReplyStart
  rw [replying, reply, silent]
  rfl

theorem exec_replyEnd {s : State} {r : Reply} {f : List Byte} (reply : s.hostLine.reply = some r)
    (driven : s.hostLine.htx = some f) : exec .replyEnd s = .next
      (if r.resetAfter then s.endReply.beginReset .request else s.endReply) := by
  show execReplyEnd s = _
  unfold execReplyEnd
  rw [reply, driven]

theorem discardWhileReplying_first {s : State} (first : s.hostLine.replyErrorCounted = false) : s.discardWhileReplying =
    ({ s with hostLine := { s.hostLine with replyErrorCounted := true } }).lineErrored := by
  unfold State.discardWhileReplying
  rw [first]
  rfl

theorem discardWhileReplying_again {s : State} (counted : s.hostLine.replyErrorCounted = true) :
    s.discardWhileReplying = s := by
  unfold State.discardWhileReplying
  rw [counted]
  rfl

/-- Settles O7: by the reply under way, and by the first discard of a reply period. -/
theorem replyPeriod : Obligations.ReplyPeriod := by
  refine ⟨rfl, ⟨rfl, fun _ _ => rfl⟩, fun s r replying reply silent => ?_, fun s r f reply driven => exec_replyEnd reply driven,
    fun b fe s awake replying => ⟨fun first => ?_, fun counted => ?_⟩, fun i kind p s request => ?_⟩
  · exact ⟨_, replyFrame_sum s.hostLine.unit r, exec_replyStart replying reply silent⟩
  · rw [exec_hostByte awake, receiveByte_replying (s := s.hrxByte fe) replying, discardWhileReplying_first (s := s.hrxByte fe) first]
    rfl
  · rw [exec_hostByte awake, receiveByte_replying (s := s.hrxByte fe) replying, discardWhileReplying_again (s := s.hrxByte fe) counted]
  · obtain ⟨req, -, run⟩ := exec_request request
    rw [run]
    refine ⟨fun asleep => ?_, fun awake replying first => ?_, fun awake replying counted => ?_, fun awake idle long => ?_⟩
    · rw [deliver_inReset asleep]
    · rw [deliver_replying awake replying, discardWhileReplying_first (s := s.hrxAfterByte false) first]
      rfl
    · rw [deliver_replying awake replying, discardWhileReplying_again (s := s.hrxAfterByte false) counted]
      rfl
    · unfold deliver
      rw [if_neg awake]
      exact congrArg _ ((if_neg idle).trans (if_pos long))

/-! ## The begin and the end of a reset -/

theorem beginReset_startUp (s : State) (k : ResetKind) : (s.beginReset k).startUp = ⟨.inReset, k,
    s.startUp.heldPowerOn || decide (k = .powerOn), s.startUp.heldPin || decide (k = .pin),
    s.startUp.heldLineHold || decide (k = .lineHold)⟩ := rfl

theorem beginReset_of_startUp {s : State} {k : ResetKind} {held : StartUp} (h : (s.beginReset k).startUp = held) :
    s.beginReset k = { s.beginReset k with startUp := held } := by
  rw [← h]

/-- Settles O10: the held conditions by the kind of the reset. -/
theorem resetBegins : Obligations.ResetBegins := by
  intro s
  refine ⟨?_, ?_, fun awake => ?_, fun asleep => congrArg _ (if_pos asleep), ?_⟩
  · exact congrArg _ (beginReset_of_startUp (by simp [beginReset_startUp]))
  · exact congrArg _ (beginReset_of_startUp (by simp [beginReset_startUp]))
  · refine congrArg Host.Outcome.next ((if_neg awake).trans ?_)
    rw [beginReset_of_startUp (s := s) (k := .lineHold) (held := ⟨.inReset, .lineHold, s.startUp.heldPowerOn, s.startUp.heldPin, true⟩)
      (by simp [beginReset_startUp])]
    rfl
  · exact beginReset_of_startUp (by simp [beginReset_startUp])

theorem exec_resetRelease {s : State} (asleep : s.startUp.part = .inReset) {u r : BitVec 2} {low : Bool}
    (free : s.lineHolds low = false) : exec (.resetRelease u r low) s = .next
      (.released s.pending s.startUp.cause u r low (s.supplies.map SupplyMonitor.senseGood)) :=
  congrArg Host.Outcome.next (if_pos ⟨asleep, free⟩)

/-- Settles O11: the line hold, and the reset values of every block. -/
theorem resetReleaseValues : Obligations.ResetReleaseValues := by
  intro u r low s
  have holds : s.lineHolds low = false ↔ ¬ (low = true ∧ s.startUp.heldLineHold = true) := by
    simp [State.lineHolds]
  constructor
  · intro stays
    refine congrArg Host.Outcome.next (if_neg fun h => ?_)
    obtain ⟨asleep, free⟩ := h
    rcases stays with awake | held
    · exact awake asleep
    · exact holds.mp free held
  · intro asleep free
    refine ⟨_, exec_resetRelease asleep (holds.mpr free), rfl, rfl, rfl, ?_⟩
    simp [State.released, OrderTable.reset, SegmentPool.reset, NodeRecord.reset, NodeSchedule.reset, Scheduler.reset, Engine.reset,
      TrunkControl.reset, SupplyMonitor.reset, Meter.reset, Counters.zero, allSegments, TrunkConfig.default]

end Sys2Proof.Machine
end

section
/-! PROOFS. The events of a Trunk Engine up to the classification of a reply (3.4, 3.5). -/

namespace Sys2Proof.Machine

open Sys2Proof

/-! ## The end of a frame -/

theorem frameSent_node {s : State} {t : TrunkId} {x : Exchange} (sending : s.engines[t].phase = .sending)
    (exch : s.engines[t].exch = some x) (node : x.node ≠ none) :
    s.frameSent t = s.modEngine t fun e => { e with phase := .awaiting } := by
  unfold State.frameSent
  rw [sending, exch]
  exact if_pos (Option.isSome_iff_ne_none.mpr node)

theorem frameSent_announce {s : State} {t : TrunkId} {x : Exchange} (sending : s.engines[t].phase = .sending)
    (exch : s.engines[t].exch = some x) (node : x.node = none) :
    s.frameSent t = if s.trunks[t].state = .stopping then s.enterDisabled t
      else s.modEngine t fun e => { e with phase := .guard, exch := none, guardTimes := 4 } := by
  unfold State.frameSent
  rw [sending, exch]
  exact if_neg (by rw [node]; exact Bool.false_ne_true)

theorem frameSent_idle {s : State} {t : TrunkId} (idle : s.engines[t].phase ≠ .sending) : s.frameSent t = s := by
  unfold State.frameSent
  split
  next sending _ => exact absurd sending idle
  next => rfl

/-- Settles O43: by the exchange whose frame is sent. -/
theorem frameSentEffect : Obligations.FrameSentEffect := by
  intro t s ready
  have run : exec (.frameSent t) s = .next (s.frameSent t) := congrArg _ (whenReady_ready ready _)
  rw [run]
  refine ⟨fun x sending exch => ⟨fun node => ?_, fun node stays => ?_, fun node stops => ?_⟩, fun idle => ?_⟩
  · rw [frameSent_node sending exch node]
  · rw [frameSent_announce sending exch node, if_neg stays]
  · rw [frameSent_announce sending exch node, if_pos stops]
  · rw [frameSent_idle idle]

/-! ## The end of an attempt -/

theorem failedAttempt_eq (x : Exchange) (c : ReplyClass) : x.failedAttempt c = { x with
    attempts := x.attempts + 1, busyCount := 0
    noStart := if c = .noStart then x.noStart + 1 else x.noStart
    broken := if c = .broken then x.broken + 1 else x.broken
    stray := if c = .stray then x.stray + 1 else x.stray } := by
  have counts (n : Nat) (p : Prop) [Decidable p] : n + (if p then 1 else 0) = if p then n + 1 else n := by
    split <;> rfl
  unfold Exchange.failedAttempt
  simp only [counts]

theorem attemptEnd_lost {s : State} {t : TrunkId} {x : Exchange} {n : NodeId} {c : ReplyClass} (node : x.node = some n)
    (lost : ∀ r, c ≠ .good r) : s.attemptEnd t x c = s.attemptLost t n x c := by
  have spent : (if (x.failedAttempt c).attempts < s.allowedAttempts t x then s.modEngine t fun e => { e with
      phase := .guard, exch := some (x.failedAttempt c), rx := [], rxFault := false, guardTimes := 2 }
      else s.exchangeEnd t n (x.failedAttempt c) .failure 0) = s.attemptLost t n x c := by
    rw [failedAttempt_eq]
    rfl
  unfold State.attemptEnd
  rw [node]
  cases c with
  | good r => exact absurd rfl (lost r)
  | noStart => exact spent
  | broken => exact spent
  | stray => exact spent

theorem attemptEnd_good {s : State} {t : TrunkId} {x : Exchange} {n : NodeId} (r : GoodReply) (node : x.node = some n) :
    s.attemptEnd t x (.good r) = s.exchangeEnd t n x r.ending r.attention := by
  unfold State.attemptEnd
  rw [node]

theorem attemptEndIn_holds {s : State} {t : TrunkId} {x : Exchange} {phase : EnginePhase} {fault : Bool} (c : ReplyClass)
    (exch : s.engines[t].exch = some x) (at_ : s.engines[t].phase = phase ∧ s.engines[t].rxFault = fault) :
    s.attemptEndIn t phase fault c = s.attemptEnd t x c := by
  unfold State.attemptEndIn
  rw [exch]
  exact if_pos at_

theorem attemptEndIn_fails {s : State} {t : TrunkId} {phase : EnginePhase} (fault : Bool) (c : ReplyClass)
    (other : s.engines[t].phase ≠ phase) : s.attemptEndIn t phase fault c = s := by
  unfold State.attemptEndIn
  split
  next => exact if_neg fun h => other h.1
  next => rfl

/-- Settles O44: each timer ends the attempt in its own exchange state. -/
theorem attemptWithoutReply : Obligations.AttemptWithoutReply := by
  intro t n x s ready exch node
  have timeout : exec (.replyStartTimeout t) s = .next (s.attemptEndIn t .awaiting false .noStart) :=
    congrArg _ (whenReady_ready ready _)
  have gap : exec (.replyGapTimeout t) s = .next (s.attemptEndIn t .receiving false .broken) :=
    congrArg _ (whenReady_ready ready _)
  have wait : exec (.faultWaitEnd t) s = .next (s.attemptEndIn t .receiving true .broken) :=
    congrArg _ (whenReady_ready ready _)
  rw [timeout, gap, wait]
  refine ⟨fun phase clean => ?_, fun phase clean => ?_, fun phase faulty => ?_, fun phase => ?_, fun phase => ⟨?_, ?_⟩⟩
  · rw [attemptEndIn_holds _ exch ⟨phase, clean⟩, attemptEnd_lost (c := .noStart) node nofun]
  · rw [attemptEndIn_holds _ exch ⟨phase, clean⟩, attemptEnd_lost (c := .broken) node nofun]
  · rw [attemptEndIn_holds _ exch ⟨phase, faulty⟩, attemptEnd_lost (c := .broken) node nofun]
  · rw [attemptEndIn_fails _ _ phase]
  · rw [attemptEndIn_fails _ _ phase]
  · rw [attemptEndIn_fails _ _ phase]

/-! ## A byte of a reply -/

theorem payloadLength_eq (bs : List Byte) : payloadLength bs = pairAt bs 4 := wordAt_toNat bs 4

theorem replyComplete_iff (bs : List Byte) : replyComplete bs = true ↔ 6 ≤ bs.length ∧ bs.length = 8 + pairAt bs 4 := by
  rw [replyComplete, payloadLength_eq, Bool.and_eq_true, decide_eq_true_iff, decide_eq_true_iff]

theorem replyFault_eq (bs : List Byte) (fe : Bool) : replyFault bs fe =
    decide (byteAt bs 0 ≠ 0x69 ∨ fe = true ∨ (bs.length = 6 ∧ 260 < pairAt bs 4)) := by
  unfold replyFault
  rw [payloadLength_eq, Bool.eq_iff_iff]
  simp only [Bool.or_eq_true, Bool.and_eq_true, decide_eq_true_eq]
  exact or_assoc

theorem trunkByte_ignored {s : State} {t : TrunkId} (b : Byte) (fe : Bool)
    (h : ¬ ((s.engines[t].phase = .awaiting ∨ s.engines[t].phase = .receiving) ∧ s.engines[t].rxFault = false) ∨
      s.engines[t].exch = none) : s.trunkByte t b fe = s := by
  unfold State.trunkByte
  split
  next x exch =>
    rcases h with deaf | idle
    · exact if_neg deaf
    · exact absurd idle (by rw [exch]; exact nofun)
  next => rfl

theorem trunkByte_heard {s : State} {t : TrunkId} {x : Exchange} (b : Byte) (fe : Bool)
    (listening : (s.engines[t].phase = .awaiting ∨ s.engines[t].phase = .receiving) ∧ s.engines[t].rxFault = false)
    (exch : s.engines[t].exch = some x) : s.trunkByte t b fe = s.collect t x b fe := by
  unfold State.trunkByte
  rw [exch]
  exact if_pos listening

/-- Settles O45: the byte that completes the reply classifies it, any other is stored. -/
theorem trunkByteCollected : Obligations.TrunkByteCollected := by
  intro t b fe s ready listening bs complete
  have run : exec (.trunkByteReceived t b fe) s = .next (s.trunkByte t b fe) := congrArg _ (whenReady_ready ready _)
  rw [run]
  refine ⟨fun deaf => by rw [trunkByte_ignored b fe deaf], fun n x hears exch node => ?_⟩
  rw [trunkByte_heard b fe hears exch]
  have ends (whole : complete) : s.collect t x b fe = s.attemptEnd t x (if fe then .broken else classify x (s.askedBy x) bs) :=
    if_pos ((replyComplete_iff bs).mpr whole)
  refine ⟨fun open_ => ?_, fun whole broken => ?_, fun whole clean => ⟨fun r good => ?_, fun lost => ?_⟩⟩
  · have goesOn : s.collect t x b fe = s.modEngine t fun e => { e with phase := .receiving, rx := bs, rxFault := replyFault bs fe } :=
      if_neg fun h => open_ ((replyComplete_iff bs).mp h)
    rw [goesOn, replyFault_eq]
  · rw [ends whole, if_pos broken, attemptEnd_lost (c := .broken) node nofun]
  · rw [ends whole, if_neg (by rw [clean]; exact Bool.false_ne_true), good, attemptEnd_good r node]
    rfl
  · rw [ends whole, if_neg (by rw [clean]; exact Bool.false_ne_true), attemptEnd_lost node lost]

end Sys2Proof.Machine
end

section
/-! PROOFS. The classification of a reply (R49, R56 to R58). -/

namespace Sys2Proof.Machine

open Sys2Proof

theorem crcAdvance_eq (r : Word) : crcAdvance r = if r.getLsbD 15 then (r <<< 1) ^^^ 0x1021 else r <<< 1 := by
  unfold crcAdvance
  rw [BitVec.msb_eq_getLsbD_last]
  rfl

theorem trunkCheck_append (bs : List Byte) (b : Byte) : trunkCheck (bs ++ [b]) = crcByte (trunkCheck bs) b := by
  unfold trunkCheck
  rw [List.foldl_append]
  rfl

theorem askedBy_found {s : State} {x : Exchange} {tag : Byte} {o : Order} (order : x.order = some tag)
    (found : s.table.find tag = some o) : s.askedBy x = o.asked := by
  unfold State.askedBy
  rw [order]
  dsimp only
  rw [found]

theorem asked_eq (o : Order) : o.asked = if o.kind = .bulkFetch then min 256 (o.length - o.progress) else o.length := by
  unfold Order.asked
  cases o.kind <;> rfl

theorem ackLengthOk_iff (type : ExchangeType) (asked length : Nat) :
    ackLengthOk type asked length = true ↔ ackFits type asked length := by
  cases type <;> simp [ackLengthOk, ackFits]

theorem station_of_node {x : Exchange} {n : NodeId} (node : x.node = some n) : x.station = byteOf (n.val % 8 + 1) := by
  unfold Exchange.station
  rw [node]
  rfl

/-- The frame of a reply is whole (R56): the lead byte, the length and the check. -/
def ReplyWhole (bs : List Byte) : Prop :=
  byteAt bs 0 = 0x69 ∧ pairAt bs 4 ≤ 260 ∧
    trunkCheck ((bs.drop 1).take (5 + pairAt bs 4)) = byteAt bs (7 + pairAt bs 4) ++ byteAt bs (6 + pairAt bs 4)

/-- The reply is the one to this exchange (R57): the station and the sequence bit. -/
def ReplyOurs (x : Exchange) (bs : List Byte) : Prop := byteAt bs 1 = x.station ∧ (byteAt bs 2).getLsbD 3 = x.seqBit

theorem wordAt_check (bs : List Byte) (length : Nat) :
    wordAt bs (6 + length) = byteAt bs (7 + length) ++ byteAt bs (6 + length) := by
  rw [wordAt, Nat.add_right_comm]

theorem classify_torn {x : Exchange} (asked : Nat) {bs : List Byte} (torn : ¬ ReplyWhole bs) : classify x asked bs = .broken := by
  unfold classify
  dsimp only
  rw [payloadLength_eq]
  by_cases lead : byteAt bs 0 ≠ 0x69 ∨ pairAt bs 4 > 260
  · exact if_pos lead
  · refine (if_neg lead).trans (if_pos fun check => torn ?_)
    rw [wordAt_check] at check
    exact ⟨not_not.mp fun h => lead (.inl h), Nat.le_of_not_lt fun h => lead (.inr h), check⟩

theorem classify_whole {x : Exchange} (asked : Nat) {bs : List Byte} (whole : ReplyWhole bs) : classify x asked bs =
    if byteAt bs 1 ≠ x.station ∨ (byteAt bs 2).getLsbD 3 ≠ x.seqBit then .stray
    else if (byteAt bs 3).toNat > 127 then .broken
    else if ((byteAt bs 2).toNat % 4 = 0) then .broken
    else if ((byteAt bs 2).toNat % 4 = 1) then
      if ackLengthOk x.type asked (pairAt bs 4) then .good ⟨.ack, byteAt bs 3, (bs.drop 6).take (pairAt bs 4)⟩ else .broken
    else if ((byteAt bs 2).toNat % 4 = 2) then
      if pairAt bs 4 = 1 then .good ⟨.nak, byteAt bs 3, (bs.drop 6).take (pairAt bs 4)⟩ else .broken
    else if pairAt bs 4 = 0 then .good ⟨.busy, byteAt bs 3, (bs.drop 6).take (pairAt bs 4)⟩ else .broken := by
  obtain ⟨lead, long, check⟩ := whole
  have type : ((byteAt bs 2).setWidth 2).toNat = (byteAt bs 2).toNat % 4 := BitVec.toNat_setWidth _ _
  unfold classify
  dsimp only
  rw [payloadLength_eq, wordAt_check, type,
    if_neg (not_or.mpr ⟨not_not_intro lead, Nat.not_lt.mpr long⟩), if_neg (not_not_intro check)]
  split
  · rfl
  split
  · rfl
  split
  next h => rw [if_pos h]
  next h => rw [if_neg (show ¬ (byteAt bs 2).toNat % 4 = 0 by omega), if_pos h]
  next h =>
    rw [if_neg (show ¬ (byteAt bs 2).toNat % 4 = 0 by omega), if_neg (show ¬ (byteAt bs 2).toNat % 4 = 1 by omega), if_pos h]
  next h0 h1 h2 => rw [if_neg h0, if_neg h1, if_neg h2]

theorem if_broken {p : Prop} [Decidable p] {c : ReplyClass} (h : ¬ p → c = .broken) : (if p then .broken else c) = .broken := by
  split
  next => rfl
  next hp => exact h hp

theorem if_broken_else {p : Prop} [Decidable p] {c d : ReplyClass} (hc : p → c = .broken) (hd : ¬ p → d = .broken) :
    (if p then c else d) = .broken := by
  split
  next hp => exact hc hp
  next hp => exact hd hp

/-- Settles O46: the tests in the order of the rules. -/
theorem replyClassification : Obligations.ReplyClassification := by
  refine ⟨⟨rfl, fun bs b => ?_⟩, fun x tag o s order found => ?_, fun x n asked bs node size => ?_⟩
  · rw [trunkCheck_append, crcByte]
    simp only [crcAdvance_eq]
  · rw [askedBy_found order found, asked_eq]
  intro length type attention payload frameGood ours contentGood
  have oursIff : ours ↔ ReplyOurs x bs := by
    unfold ReplyOurs
    rw [station_of_node node]
  refine ⟨fun torn => classify_torn asked torn, fun whole strange => ?_, fun whole own bad => ?_, fun whole own good => ?_⟩
  · rw [classify_whole asked whole, if_pos]
    rw [oursIff, ReplyOurs, not_and_or] at strange
    exact strange
  · have ⟨station, seq⟩ := oursIff.mp own
    rw [classify_whole asked whole, if_neg (not_or.mpr ⟨not_not_intro station, not_not_intro seq⟩)]
    refine if_broken fun low => if_broken fun kind => if_broken_else (fun h => if_neg fun fits => bad ?_)
      fun notAck => if_broken_else (fun h => if_neg fun fits => bad ?_) fun notNak => if_neg fun fits => bad ?_
    · exact ⟨Nat.not_lt.mp low, kind, fun _ => (ackLengthOk_iff _ _ _).mp fits, fun g => by omega, fun g => by omega⟩
    · exact ⟨Nat.not_lt.mp low, kind, fun g => absurd g notAck, fun _ => fits, fun g => by omega⟩
    · exact ⟨Nat.not_lt.mp low, kind, fun g => absurd g notAck, fun g => absurd g notNak, fun _ => fits⟩
  · have ⟨station, seq⟩ := oursIff.mp own
    obtain ⟨low, kind, ack, nak, busy⟩ := good
    rw [classify_whole asked whole, if_neg (not_or.mpr ⟨not_not_intro station, not_not_intro seq⟩), if_neg (Nat.not_lt.mpr low),
      if_neg kind]
    refine ⟨fun h => ?_, fun h => ?_, fun h => ?_⟩
    · rw [if_pos h, if_pos ((ackLengthOk_iff _ _ _).mpr (ack h))]
    · rw [if_neg (by omega), if_pos h, if_pos (nak h)]
    · rw [if_neg (by omega), if_neg (by omega), if_pos (busy h)]

end Sys2Proof.Machine
end

section
/-! PROOFS. The end of the guard (R59, R88, R89), the events of a Supply Monitor that end a wait (R108, R111, R117). -/

namespace Sys2Proof.Machine

open Sys2Proof

/-! ## The burst and the guard -/

theorem burstOrder_of_continues {s : State} {t : TrunkId} {n : NodeId} {o : Order} {burst : Nat}
    (h : s.burstContinues t n o burst) : s.burstOrder t = some (n, o, burst + 1) := by
  obtain ⟨grant, own, short, head, bulk, active, mark, flight, service, backoff, running⟩ := h
  have offered : s.offered n = some o := State.offered_eq_some.2 ⟨service, backoff, head, .inr ⟨active, flight⟩⟩
  unfold State.burstOrder
  rw [grant]
  dsimp only
  rw [offered]
  exact if_pos ⟨own, rfl, (OrderKind.isBulk_iff _).mpr bulk, active, mark, rfl, short, running⟩

theorem continues_of_burstOrder {s : State} {t : TrunkId} {n : NodeId} {o : Order} {b : Nat}
    (h : s.burstOrder t = some (n, o, b)) : ∃ burst, s.burstContinues t n o burst := by
  unfold State.burstOrder at h
  split at h
  next g grant =>
    split at h
    next m kind node =>
      split at h
      next p offered =>
        split at h
        next cond =>
          obtain ⟨own, tag, bulk, active, mark, ack, short, running⟩ := cond
          obtain ⟨service, backoff, head, state⟩ := State.offered_eq_some.1 offered
          cases h
          refine ⟨g.burst, ?_, own, short, head, (OrderKind.isBulk_iff _).mp bulk, active, mark, ?_, service, backoff, running⟩
          · obtain ⟨gkind, gnode, gtag, gburst, gack⟩ := g
            cases kind
            cases node
            cases tag
            cases ack
            exact grant
          · rcases state with queued | ⟨-, flight⟩
            · exact absurd (active.symm.trans queued) nofun
            · exact flight
        next => cases h
      next => cases h
    next => cases h
  next => cases h

theorem guardEnd_retry {s : State} {t : TrunkId} {x : Exchange} (exch : s.engines[t].exch = some x) :
    s.guardEnd t = s.modEngine t fun e => { e with
      phase := .sending, exch := some { x with retriesSent := x.retriesSent + 1 }, rx := [], rxFault := false, guardTimes := 0 } := by
  unfold State.guardEnd
  rw [exch]

theorem guardEnd_burst {s : State} {t : TrunkId} {n : NodeId} {o : Order} {b : Nat} (exch : s.engines[t].exch = none)
    (burst : s.burstOrder t = some (n, o, b)) : s.guardEnd t = s.startOrderExchange n o b := by
  unfold State.guardEnd
  rw [exch]
  dsimp only
  rw [burst]

theorem guardEnd_idle {s : State} {t : TrunkId} (exch : s.engines[t].exch = none) (burst : s.burstOrder t = none) :
    s.guardEnd t = s.becomeIdle t := by
  unfold State.guardEnd
  rw [exch]
  dsimp only
  rw [burst]

/-- Settles O49: by the exchange in flight, and by the burst. -/
theorem guardEndEffect : Obligations.GuardEndEffect := by
  intro t s ready
  have run : exec (.guardEnd t) s = .next (if s.engines[t].phase = .guard then s.guardEnd t else s) :=
    congrArg _ (whenReady_ready ready _)
  rw [run]
  refine ⟨fun other => by rw [if_neg other], fun guarding => ?_⟩
  rw [if_pos guarding]
  refine ⟨fun x exch => by rw [guardEnd_retry exch],
    fun exch => ⟨fun n o burst more => by rw [guardEnd_burst exch (burstOrder_of_continues more)], fun stops => ?_⟩⟩
  have ends : s.burstOrder t = none := Option.eq_none_iff_forall_not_mem.mpr fun ⟨n, o, b⟩ h =>
    stops ⟨n, o, continues_of_burstOrder h⟩
  rw [guardEnd_idle exch ends]
  rfl

/-! ## The waits of a trunk -/

theorem upd_congr {α : Type} {n : Nat} {v : Vector α n} {i : Fin n} {f g : α → α} (h : f v[i] = g v[i]) : upd v i f = upd v i g :=
  congrArg (fun a => v.set i.val a i.isLt) h

theorem sense_on {m : SupplyMonitor} (on : m.power = true) (good : Bool) (c : TrunkControl) : m.sense good c =
    { power := true, senseGood := good, supplyLow := !good
      faultFilter := decide (good = false ∧ c.state ≠ .down)
      settleTimer := decide (good = true ∧ c.state = .active ∧ c.wait = .settle)
      recoveryTimer := decide (good = true ∧ c.state = .down) } := by
  unfold SupplyMonitor.sense
  rw [if_pos on, on]
  cases good <;> simp

theorem settleEnd_settles {s : State} {t : TrunkId}
    (h : s.supplies[t].settleTimer = true ∧ s.trunks[t].state = .active ∧ s.trunks[t].wait = .settle) : s.settleEnd t =
      ((s.modSupply t fun m => { m with settleTimer := false }).modTrunk t fun c => { c with wait := .none }).trunkFree t :=
  if_pos h

theorem recover_recovers {s : State} {t : TrunkId} (h : s.supplies[t].recoveryTimer = true ∧ s.trunks[t].state = .down) :
    s.recover t = (((s.modSupply t fun m => { m with recoveryTimer := false }).enterActive t .none).latch
      .trunkRestored).trunkFree t := if_pos h

/-- Settles O52: the sense input by the power of the monitor, and the two timers. -/
theorem supplyWaitsEnd : Obligations.SupplyWaitsEnd := by
  refine ⟨fun t good s => ⟨fun same => congrArg _ (if_pos same), fun change off => ?_, fun change on => ?_⟩, fun t s ready => ?_⟩
  · have off' : (s.supplies[t].sense good s.trunks[t]) = { s.supplies[t] with senseGood := good } :=
      if_neg (by rw [off]; exact Bool.false_ne_true)
    exact congrArg Host.Outcome.next ((if_neg change).trans (congrArg (fun v => ({ s with supplies := v } : State)) (upd_congr off')))
  · exact congrArg Host.Outcome.next ((if_neg change).trans
      (congrArg (fun v => ({ s with supplies := v } : State)) (upd_congr (sense_on on good s.trunks[t]))))
  have settle : exec (.settleEnd t) s = .next (s.settleEnd t) := congrArg _ (whenReady_ready ready _)
  have recovery : exec (.trunkRecovery t) s = .next (s.recover t) := congrArg _ (whenReady_ready ready _)
  rw [settle, recovery]
  refine ⟨fun h => congrArg _ (if_neg h), fun h => by rw [settleEnd_settles h], fun h => congrArg _ (if_neg h),
    fun h => ?_⟩
  have run := congrArg (Host.Outcome.next (φ := Fault) (ρ := Refusal)) (recover_recovers h)
  rw [State.enterActive_eq] at run
  refine ⟨_, run, ?_, ?_, ?_, fun m other => ⟨?_, ?_, ?_⟩, fun n => ?_, rfl, rfl⟩
  · exact upd_same s.trunks t _
  · exact upd_same s.supplies t _
  · exact upd_same s.scheds t _
  · exact upd_other s.trunks t m _ other
  · exact upd_other s.supplies t m _ other
  · exact upd_other s.scheds t m _ other
  · refine (trunkNodes_upd_get _ t s.nodes n).trans ?_
    rw [NodeRecord.unseenAgain_eq, ← ite_and]

end Sys2Proof.Machine
end

section
/-! PROOFS. The claims of a tick event (R23, R24, R80, R81, R135, R151). -/

namespace Sys2Proof.Machine

open Sys2Proof

/-! ## When a claim acts -/

theorem orderExpires_iff {s : State} {o : Order} : s.orderExpires o = true ↔
    (o.state = .filling ∨ o.state = .queued ∨ o.state = .active) ∧ o.deadline = some (s.interval.tick - o.accepted).toNat := by
  unfold State.orderExpires
  split
  next d deadline =>
    rw [Bool.and_eq_true, unended_iff, decide_eq_true_iff, deadline, Option.some.injEq, eq_comm (a := d)]
    rfl
  next deadline => simp [deadline]

theorem expiryDue_iff {s : State} {tag : Byte} : s.expiryDue tag = true ↔
    ∃ o, s.table.find tag = some o ∧ (o.state = .filling ∨ o.state = .queued ∨ o.state = .active) ∧
      o.deadline = some (s.interval.tick - o.accepted).toNat := by
  unfold State.expiryDue
  split
  next o found => simp [orderExpires_iff, found]
  next found => simp [found]

theorem takeExpiry_due {s : State} {tag : Byte} {o : Order} (found : s.table.find tag = some o)
    (expires : s.orderExpires o = true) : s.takeExpiry tag = (s.endOrMark .expire tag).trunkFree (trunkOf o.node) := by
  unfold State.takeExpiry
  rw [found]
  exact if_pos expires

theorem takeExpiry_notDue {s : State} {tag : Byte} (idle : s.expiryDue tag = false) : s.takeExpiry tag = s := by
  unfold State.expiryDue at idle
  unfold State.takeExpiry
  split
  next o found =>
    rw [found] at idle
    exact if_neg (Bool.eq_false_iff.mp idle)
  next => rfl

theorem backoffEnds_iff {s : State} {n : NodeId} : s.backoffEnds n = true ↔
    s.nodeScheds[n].inForce = true ∧ s.nodeScheds[n].expiry = some (s.interval.tick - 1) := by
  rw [State.backoffEnds, Bool.and_eq_true, decide_eq_true_iff]

theorem effectivePoll_eq (c : TrunkControl) : c.effectivePoll = (if c.state = .quiet then 8 else 1) * c.config.pollPeriod := by
  unfold TrunkControl.effectivePoll
  split
  · rfl
  · exact (Nat.one_mul _).symm

theorem pollFallsDue_iff {s : State} {n : NodeId} : s.pollFallsDue n = true ↔ s.nodeScheds[n].pollDue = false ∧
    (if s.trunks[trunkOf n].state = .quiet then 8 else 1) * s.trunks[trunkOf n].config.pollPeriod ≤
      (s.interval.tick - s.nodes[n].lastExchange).toNat := by
  rw [State.pollFallsDue, Bool.and_eq_true, decide_eq_true_iff, Bool.not_eq_true', effectivePoll_eq]
  rfl

theorem agedAt_iff {q : CompletionQueue} {now : Word} : q.agedAt now = true ↔
    q.ageLimit ≠ 0 ∧ ∃ r, q.records.head? = some r ∧ q.ageLimit ≤ (now - r.stamp).toNat := by
  unfold CompletionQueue.agedAt
  split
  next r rest h =>
    rw [h, Bool.and_eq_true, decide_eq_true_iff, decide_eq_true_iff]
    simp [age]
  next h => simp [h]

/-! ## The next expiry -/

/-- Whether a claim is an expiry that still acts. -/
def State.acts (s : State) (c : TickClaim) : Bool := match c with | .expiry tag => s.expiryDue tag | _ => false

theorem nextExpiry_eq (s : State) : s.nextExpiry = s.claims.find? s.acts := by
  unfold State.nextExpiry
  congr 1

theorem nextExpiry_first {s : State} {tag : Byte} {before after : List TickClaim}
    (claims : s.claims = before ++ .expiry tag :: after) (idle : ∀ u, TickClaim.expiry u ∈ before → s.expiryDue u = false)
    (due : s.expiryDue tag = true) : s.nextExpiry = some (.expiry tag) := by
  have none : before.find? s.acts = none := List.find?_eq_none.mpr fun c mem => by
    cases c with
    | expiry u => exact Bool.eq_false_iff.mp (idle u mem)
    | backoff n => exact Bool.false_ne_true
    | poll n => exact Bool.false_ne_true
    | headAged => exact Bool.false_ne_true
    | intervalEnd => exact Bool.false_ne_true
  rw [nextExpiry_eq, claims, List.find?_append, none, Option.none_or]
  exact List.find?_cons_of_pos due

theorem nextExpiry_before {s : State} {u tag : Byte} {before after : List TickClaim}
    (claims : s.claims = before ++ .expiry u :: after) (due : s.expiryDue u = true) (other : tag ≠ u)
    (later : TickClaim.expiry tag ∉ before) : s.nextExpiry ≠ some (.expiry tag) := by
  rw [nextExpiry_eq, claims, List.find?_append, List.find?_cons_of_pos (p := s.acts) (a := .expiry u) due]
  intro h
  rcases Option.or_eq_some_iff.mp h with first | ⟨-, first⟩
  · exact later (List.mem_of_find?_eq_some first)
  · cases first
    exact other rfl

theorem nextExpiry_due {s : State} {tag : Byte} (h : s.nextExpiry = some (.expiry tag)) :
    s.expiryDue tag = true ∧ TickClaim.expiry tag ∈ s.claims := by
  rw [nextExpiry_eq] at h
  exact ⟨List.find?_some (p := s.acts) h, List.mem_of_find?_eq_some h⟩

theorem exec_orderExpiry {s : State} (ready : s.startUp.part = .ready) (tag : Byte) : exec (.orderExpiry tag) s =
    .next (if s.nextExpiry = some (.expiry tag) then s.takeClaim (.expiry tag) else s) := congrArg _ (whenReady_ready ready _)

/-- Settles O42: a claim acts when it is there and its time has come; an expiry when it is the next one. -/
theorem tickClaimsTaken : Obligations.TickClaimsTaken := by
  intro s ready without now due
  have backoff (n : NodeId) : exec (.busyBackoffExpiry n) s = .next (s.takeClaim (.backoff n)) :=
    congrArg _ (whenReady_ready ready _)
  have poll (n : NodeId) : exec (.pollDue n) s = .next (s.takeClaim (.poll n)) := congrArg _ (whenReady_ready ready _)
  have aged : exec .headRecordAged s = .next (s.takeClaim .headAged) := congrArg _ (whenReady_ready ready _)
  have dueIff (tag : Byte) : s.expiryDue tag = true ↔ ∃ o, due tag o := expiryDue_iff
  have idle {tag : Byte} (none : ∀ o, ¬ due tag o) : s.expiryDue tag = false :=
    Bool.eq_false_iff.mpr fun h => by
      obtain ⟨o, ho⟩ := (dueIff tag).mp h
      exact none o ho
  refine ⟨fun tag before after claims first o isDue => ?_, fun u o before after claims isDue tag other later => ?_,
    fun tag none => ?_, fun n mem inForce expiry => ?_, fun n mem clear period => ?_, fun h rest mem records limit reached => ?_,
    fun tag absent => ?_, fun n absent => ?_, fun n absent => ?_, fun absent => ?_⟩
  · have mem : TickClaim.expiry tag ∈ s.claims := by rw [claims]; exact List.mem_append_right _ List.mem_cons_self
    obtain ⟨found, state, deadline⟩ := isDue
    rw [exec_orderExpiry ready, if_pos (nextExpiry_first claims (fun u mem => idle (first u mem))
      ((dueIff tag).mpr ⟨o, found, state, deadline⟩)), takeClaim_present mem]
    exact congrArg _ (takeExpiry_due (s := without (.expiry tag)) found (orderExpires_iff.mpr ⟨state, deadline⟩))
  · rw [exec_orderExpiry ready, if_neg (nextExpiry_before claims ((dueIff u).mpr ⟨o, isDue⟩) other later)]
  · rw [exec_orderExpiry ready, if_neg fun h => Bool.eq_false_iff.mp (idle none) (nextExpiry_due h).1]
  · rw [backoff, takeClaim_present mem]
    exact congrArg _ (if_pos (backoffEnds_iff (s := without (.backoff n)).mpr ⟨inForce, expiry⟩))
  · rw [poll, takeClaim_present mem]
    exact congrArg _ (if_pos (pollFallsDue_iff (s := without (.poll n)).mpr ⟨clear, period⟩))
  · rw [aged, takeClaim_present mem]
    have old : (without .headAged).completions.agedAt s.interval.tick = true :=
      agedAt_iff.mpr ⟨limit, h, congrArg List.head? records, reached⟩
    refine congrArg Host.Outcome.next ((if_pos old).trans ?_)
    have level : ({ s.completions with headAged := true } : CompletionQueue).level = true := by
      simp [CompletionQueue.level, records, limit]
    exact congrArg (State.levelSet { without .headAged with completions := { s.completions with headAged := true } } 0x0001) level
  · rw [exec_orderExpiry ready, if_neg fun h => absent (nextExpiry_due h).2]
  · rw [backoff, takeClaim_absent absent]
  · rw [poll, takeClaim_absent absent]
  · rw [aged, takeClaim_absent absent]

end Sys2Proof.Machine
end

section
/-! PROOFS. The tick event (R151): the claims it leaves. -/

namespace Sys2Proof.Machine

open Sys2Proof

/-! ## The expiring tags, ascending -/

theorem mem_insertTag {u tag : Byte} {l : List Byte} : u ∈ insertTag tag l ↔ u = tag ∨ u ∈ l := by
  induction l with
  | nil => simp [insertTag]
  | cons v rest ih =>
    unfold insertTag
    split
    · exact List.mem_cons
    · rw [List.mem_cons, ih, List.mem_cons]
      exact or_left_comm

theorem insertTag_sorted {tag : Byte} {l : List Byte} (sorted : l.Pairwise fun a b => a.toNat ≤ b.toNat) :
    (insertTag tag l).Pairwise fun a b => a.toNat ≤ b.toNat := by
  induction l with
  | nil => exact List.pairwise_singleton _ _
  | cons v rest ih =>
    have ⟨least, tail⟩ := List.pairwise_cons.mp sorted
    unfold insertTag
    split
    next less =>
      refine List.pairwise_cons.mpr ⟨fun u mem => ?_, sorted⟩
      rcases List.mem_cons.mp mem with rfl | mem
      · exact Nat.le_of_lt less
      · exact (Nat.le_of_lt less).trans (least u mem)
    next notLess =>
      refine List.pairwise_cons.mpr ⟨fun u mem => ?_, ih tail⟩
      rcases mem_insertTag.mp mem with rfl | mem
      · exact Nat.le_of_not_lt notLess
      · exact least u mem

theorem mem_expiringTags {s : State} {tag : Byte} : tag ∈ s.expiringTags ↔ ∃ o ∈ s.table.live, o.tag = tag ∧
    (o.state = .filling ∨ o.state = .queued ∨ o.state = .active) ∧ o.deadline = some (s.interval.tick - o.accepted).toNat := by
  have folded (l : List Order) : tag ∈ l.foldr (fun o l => insertTag o.tag l) [] ↔ ∃ o ∈ l, o.tag = tag := by
    induction l with
    | nil => simp
    | cons o rest ih => rw [List.foldr_cons, mem_insertTag, ih, List.exists_mem_cons_iff, eq_comm]
  unfold State.expiringTags
  rw [folded]
  refine exists_congr fun o => ?_
  rw [List.mem_filter, orderExpires_iff]
  tauto

theorem expiringTags_sorted (s : State) : s.expiringTags.Pairwise fun a b => a.toNat ≤ b.toNat := by
  unfold State.expiringTags
  induction s.table.live.filter s.orderExpires with
  | nil => exact List.Pairwise.nil
  | cons o rest ih => exact insertTag_sorted ih

/-! ## The claims of a tick event -/

theorem mem_allNodes (n : NodeId) : n ∈ allNodes := by
  revert n
  decide

/-- The claims of a tick event after the expiries. -/
def State.laterClaims (s : State) (intervalEnds : Bool) : List TickClaim :=
  (allNodes.filter s.backoffEnds).map .backoff ++ (allNodes.filter s.pollFallsDue).map .poll ++
  (if !s.completions.headAged && s.completions.agedAt s.interval.tick then [.headAged] else []) ++
  (if intervalEnds then [.intervalEnd] else [])

theorem dueClaims_eq (s : State) (ends : Bool) : s.dueClaims ends = s.expiringTags.map .expiry ++ s.laterClaims ends := by
  simp only [State.dueClaims, State.laterClaims, List.append_assoc]

theorem mem_laterClaims {s : State} {ends : Bool} {c : TickClaim} : c ∈ s.laterClaims ends ↔
    (∃ n, s.backoffEnds n = true ∧ .backoff n = c) ∨ (∃ n, s.pollFallsDue n = true ∧ .poll n = c) ∨
      (s.completions.headAged = false ∧ s.completions.agedAt s.interval.tick = true ∧ c = .headAged) ∨
      (ends = true ∧ c = .intervalEnd) := by
  have one {p : Bool} {d : TickClaim} : c ∈ (if p then [d] else []) ↔ p = true ∧ c = d := by
    cases p <;> simp
  unfold State.laterClaims
  rw [List.mem_append, List.mem_append, List.mem_append, one, one, Bool.and_eq_true, Bool.not_eq_true']
  simp only [List.mem_map, List.mem_filter, mem_allNodes, true_and, or_assoc, and_assoc]

theorem expiry_mem_dueClaims {s : State} {ends : Bool} {tag : Byte} :
    .expiry tag ∈ s.dueClaims ends ↔ tag ∈ s.expiringTags := by
  simp [dueClaims_eq, mem_laterClaims]

theorem backoff_mem_dueClaims {s : State} {ends : Bool} {n : NodeId} :
    .backoff n ∈ s.dueClaims ends ↔ s.backoffEnds n = true := by
  simp [dueClaims_eq, mem_laterClaims]

theorem poll_mem_dueClaims {s : State} {ends : Bool} {n : NodeId} :
    .poll n ∈ s.dueClaims ends ↔ s.pollFallsDue n = true := by
  simp [dueClaims_eq, mem_laterClaims]

theorem headAged_mem_dueClaims {s : State} {ends : Bool} : .headAged ∈ s.dueClaims ends ↔
    s.completions.headAged = false ∧ s.completions.agedAt s.interval.tick = true := by
  simp [dueClaims_eq, mem_laterClaims]

theorem intervalEnd_mem_dueClaims {s : State} {ends : Bool} : .intervalEnd ∈ s.dueClaims ends ↔ ends = true := by
  simp [dueClaims_eq, mem_laterClaims]

/-- The tick count and the interval position after a tick event (R151, R152). -/
def State.ticked (v : State) : State := { v with interval := { v.interval with
  tick := v.interval.tick + 1
  position := if v.interval.position + 1 < v.interval.length then v.interval.position + 1 else v.interval.position } }

theorem tickEvent_eq (s : State) : s.tickEvent = { s.takeLeftClaims.ticked with
    claims := s.takeLeftClaims.ticked.dueClaims
      (!decide (s.takeLeftClaims.interval.position + 1 < s.takeLeftClaims.interval.length)) } := by
  have position (v : State) : (v.modInterval fun i => { i with
      tick := i.tick + 1
      position := if (!decide (v.interval.position + 1 < v.interval.length)) = true then i.position else i.position + 1 }) =
      v.ticked := by
    unfold State.ticked State.modInterval
    by_cases h : v.interval.position + 1 < v.interval.length <;> simp [h]
  unfold State.tickEvent
  dsimp only
  rw [position]

/-- Settles O41: the claims left over are taken, the counts rise, and each block's claim is left when its time has come. -/
theorem tickEffect : Obligations.TickEffect := by
  refine ⟨fun s asleep => congrArg _ (if_neg asleep), fun s ready => ⟨fun n mem => ?_, fun n mem => ?_, fun mem => ?_, fun mem => ?_⟩,
    fun tag s => ⟨fun o isDue => ?_, fun none => ?_⟩, fun s ready => ?_⟩
  · exact (congrArg _ (whenReady_ready ready _)).trans (congrArg _ (takeClaim_present mem))
  · exact (congrArg _ (whenReady_ready ready _)).trans (congrArg _ (takeClaim_present mem))
  · exact (congrArg _ (whenReady_ready ready _)).trans (congrArg _ (takeClaim_present mem))
  · exact (congrArg _ (whenReady_ready ready _)).trans (congrArg _ (takeClaim_present mem))
  · exact takeExpiry_due isDue.1 (orderExpires_iff.mpr isDue.2)
  · refine takeExpiry_notDue (Bool.eq_false_iff.mpr fun h => ?_)
    obtain ⟨o, isDue⟩ := expiryDue_iff.mp h
    exact none o isDue
  intro v now
  have run : exec .tick s = .next s.tickEvent := congrArg _ (whenReady_ready ready _)
  rw [run, tickEvent_eq]
  refine ⟨_, rfl, fun tag => expiry_mem_dueClaims.trans mem_expiringTags, fun n => backoff_mem_dueClaims.trans ?_,
    fun n => poll_mem_dueClaims.trans pollFallsDue_iff, ?_, intervalEnd_mem_dueClaims.trans ?_, _, _, dueClaims_eq _ _, ?_,
    expiringTags_sorted _⟩
  · refine backoffEnds_iff.trans (and_congr_right' ?_)
    show _ = some (now - 1) ↔ _
    refine ⟨fun expiry => ⟨_, expiry, by bv_omega⟩, fun ⟨e, expiry, ends⟩ => expiry.trans (congrArg some (by bv_omega))⟩
  · exact headAged_mem_dueClaims.trans (and_congr_right' agedAt_iff)
  · rw [Bool.not_eq_true', decide_eq_false_iff_not, Nat.not_lt]
    rfl
  · intro tag mem
    simp [mem_laterClaims] at mem

end Sys2Proof.Machine
end

section
/-! PROOFS. The interval end (R152, R157 to R161, R120, R78): the three passes over the trunks. -/

namespace Sys2Proof.Machine

open Sys2Proof

/-- A change of each of the three places of a vector, by the place. -/
theorem upd_three {α : Type} (v : Vector α 3) (f : TrunkId → α → α) (t : TrunkId) :
    (upd (upd (upd v 0 (f 0)) 1 (f 1)) 2 (f 2))[t] = f t v[t] := by
  have place : ∀ t : TrunkId, t = 0 ∨ t = 1 ∨ t = 2 := by decide
  rcases place t with rfl | rfl | rfl
  · rw [upd_other _ _ _ _ (by decide), upd_other _ _ _ _ (by decide), upd_same]
  · rw [upd_other _ _ _ _ (by decide), upd_same, upd_other _ _ _ _ (by decide)]
  · rw [upd_same, upd_other _ _ _ _ (by decide), upd_other _ _ _ _ (by decide)]

/-! ## The flags latched -/

/-- The Notice Unit with these flags latched; nothing is taken anew when there are none. -/
def NoticeUnit.flagsIn (part : PartState) (set : Word) (n : NoticeUnit) : NoticeUnit :=
  if set = 0 then n
  else { n with flags := n.flags ||| set, attn := decide (part = .ready) && decide ((n.flags ||| set) &&& n.mask ≠ 0) }

theorem flagsIn_zero (part : PartState) (n : NoticeUnit) : n.flagsIn part 0 = n := if_pos rfl

theorem flagsIn_flagged {s : State} {set : Word} (some_ : set ≠ 0) :
    s.notices.flagsIn s.startUp.part set = (s.flagged set).notices := if_neg some_

theorem flagsIn_flagsIn (part : PartState) (a b : Word) (n : NoticeUnit) :
    (n.flagsIn part a).flagsIn part b = n.flagsIn part (a ||| b) := by
  by_cases ha : a = 0
  · subst ha
    rw [flagsIn_zero]
    exact congrArg (n.flagsIn part ·) BitVec.zero_or.symm
  by_cases hb : b = 0
  · subst hb
    rw [flagsIn_zero]
    exact congrArg (n.flagsIn part ·) BitVec.or_zero.symm
  have either : a ||| b ≠ 0 := fun h => ha (BitVec.or_eq_zero_iff.mp h).1
  unfold NoticeUnit.flagsIn
  rw [if_neg ha, if_neg hb, if_neg either]
  simp only [BitVec.or_assoc]

/-! ## The reports -/

/-- Whether a trunk's interval ends with its degrade limit met anew (R159). -/
def State.degrades (s : State) (t : TrunkId) (m : Meter) : Bool :=
  decide (severeAfter (faultClass m.counts) m.severe = s.trunks[t].config.degradeLimit) &&
    decide (s.trunks[t].config.degradeLimit ≠ 0) && decide (severeAfter (faultClass m.counts) m.severe ≠ m.severe)

/-- The flags that a trunk's report latches (R157, R159). -/
def reportFlags (reports degrades : Bool) : Word :=
  if reports then (if degrades then 0x0060 else 0x0040) else 0

/-- A trunk's interval state after its report (R157). -/
def State.reported (s : State) (short : Bool) (span : Nat) (t : TrunkId) (m : Meter) : Meter :=
  if s.trunks[t].state = .disabled then m
  else { m with
    counts := .zero
    severe := severeAfter (faultClass m.counts) m.severe
    peak := if s.trunks[t].config.peakMode = .interval then s.currentBacklog t else m.peak
    ring := (⟨m.sequence, s.trunks[t].state, m.wasDown, m.wasQuiet, short, faultClass m.counts,
      severeAfter (faultClass m.counts) m.severe, m.peak, s.interval.tick, span, m.counts⟩ :: m.ring).take 4
    sequence := m.sequence + 1 }

theorem latch_eq (f : NoticeFlag) (s : State) :
    s.latch f = { s with notices := s.notices.flagsIn s.startUp.part f.mask } := by
  have one : f.mask ≠ 0 := by cases f <;> decide
  rw [flagsIn_flagged one]
  rfl

theorem latch_report_degraded (s : State) : (s.latch .reportReady).latch .trunkDegraded =
    { s with notices := s.notices.flagsIn s.startUp.part 0x0060 } := by
  have both : (0x0060 : Word) = NoticeFlag.reportReady.mask ||| NoticeFlag.trunkDegraded.mask := rfl
  rw [latch_eq .reportReady, latch_eq .trunkDegraded, both, ← flagsIn_flagsIn]

theorem reportTrunk_eq (short : Bool) (span : Nat) (t : TrunkId) (s : State) (m : Vector Meter 3) (n : NoticeUnit) :
    ({ s with meters := m, notices := n } : State).reportTrunk short span t = { s with
      meters := upd m t (s.reported short span t)
      notices := n.flagsIn s.startUp.part (reportFlags (decide (s.trunks[t].state ≠ .disabled)) (s.degrades t m[t])) } := by
  unfold State.reportTrunk
  by_cases off : s.trunks[t].state = .disabled
  · have kept : s.reported short span t m[t] = m[t] := if_pos off
    have same : upd m t (s.reported short span t) = m := (upd_congr (g := fun x => x) kept).trans (upd_id m t)
    rw [same, decide_eq_false (not_not_intro off)]
    exact if_pos off
  · have report : upd m t (s.reported short span t) = upd m t fun x => { x with
        counts := .zero
        severe := severeAfter (faultClass m[t].counts) m[t].severe
        peak := match s.trunks[t].config.peakMode with | .interval => s.currentBacklog t | .held => x.peak
        ring := (({ s with meters := m } : State).buildReport t short span :: x.ring).take 4
        sequence := x.sequence + 1 } := by
      refine upd_congr ((if_neg off).trans ?_)
      cases s.trunks[t].config.peakMode <;> rfl
    rw [report, decide_eq_true off]
    refine (if_neg off).trans ?_
    cases met : s.degrades t m[t]
    · exact (if_neg (Bool.eq_false_iff.mp met)).trans (latch_eq .reportReady _)
    · exact (if_pos met).trans (latch_report_degraded _)

/-- The three reports (R157). -/
theorem reports_eq (short : Bool) (span : Nat) (s : State) :
    forAll (State.reportTrunk short span) allTrunks s = { s with
      meters := upd (upd (upd s.meters 0 (s.reported short span 0)) 1 (s.reported short span 1)) 2 (s.reported short span 2)
      notices := s.notices.flagsIn s.startUp.part
        ((reportFlags (decide (s.trunks[0].state ≠ .disabled)) (s.degrades 0 s.meters[0]) |||
          reportFlags (decide (s.trunks[1].state ≠ .disabled)) (s.degrades 1 s.meters[1])) |||
          reportFlags (decide (s.trunks[2].state ≠ .disabled)) (s.degrades 2 s.meters[2])) } := by
  show State.reportTrunk short span 2 (State.reportTrunk short span 1
    (State.reportTrunk short span 0 { s with meters := s.meters, notices := s.notices })) = _
  rw [reportTrunk_eq, reportTrunk_eq, reportTrunk_eq, flagsIn_flagsIn, flagsIn_flagsIn,
    upd_other _ _ _ _ (by decide), upd_other _ _ _ _ (by decide), upd_other _ _ _ _ (by decide)]
  rfl

/-! ## The idle counts and the indications -/

/-- A trunk after the idle count of an interval end (R120). -/
def State.idled (s : State) (t : TrunkId) (c : TrunkControl) : TrunkControl :=
  let idle := if (c.state = .active ∧ c.wait = .none) ∨ c.state = .quiet
    then (if c.orderExchange then 0 else min 15 (c.idleCount + 1)) else if c.state = .active then 0 else c.idleCount
  { c with
    idleCount := idle
    orderExchange := false
    state := if c.state = .active ∧ c.wait = .none ∧ c.config.quietLimit ≠ 0 ∧ c.config.quietLimit ≤ idle ∧
      (∀ n : NodeId, trunkOf n = t → s.table.queue n = []) then .quiet else c.state }

theorem trunkEmpty_iff {s : State} {t : TrunkId} : s.trunkEmpty t = true ↔ ∀ n, trunkOf n = t → s.table.queue n = [] := by
  simp only [State.trunkEmpty, List.all_eq_true, List.isEmpty_iff, mem_trunkNodes]

theorem idleUpdate_idled (t : TrunkId) (s : State) (v : Vector TrunkControl 3) :
    ({ s with trunks := v } : State).idleUpdate t = { s with trunks := upd v t (s.idled t) } := by
  unfold State.idleUpdate State.idled
  refine congrArg (fun w => ({ s with trunks := w } : State)) (upd_congr ?_)
  have empty : ({ s with trunks := v } : State).trunkEmpty t = true ↔ ∀ n, trunkOf n = t → s.table.queue n = [] := trunkEmpty_iff
  have counted (c : TrunkControl) : (decide (c.state = .active) && decide (c.wait = .none) || decide (c.state = .quiet)) = true ↔
      (c.state = .active ∧ c.wait = .none) ∨ c.state = .quiet := by simp
  simp only [empty, counted]

/-- A trunk's interval state with the indications of the interval that starts (R157). -/
def Meter.started (c : TrunkControl) (m : Meter) : Meter :=
  { m with wasDown := decide (c.state = .down), wasQuiet := decide (c.state = .quiet) }

/-- A scheduler with the announce flag of an interval start (R78). -/
def Scheduler.started (c : TrunkControl) (g : Scheduler) : Scheduler :=
  { g with announce := g.announce || decide ((c.state = .active ∨ c.state = .quiet) ∧ c.mode ≠ 63) }

theorem intervalStartTrunk_eq (t : TrunkId) (s : State) (m : Vector Meter 3) (g : Vector Scheduler 3) :
    ({ s with meters := m, scheds := g } : State).intervalStartTrunk t = { s with
      meters := upd m t (Meter.started s.trunks[t]), scheds := upd g t (Scheduler.started s.trunks[t]) } := by
  unfold State.intervalStartTrunk
  by_cases announces : (s.trunks[t].state = .active ∨ s.trunks[t].state = .quiet) ∧ s.trunks[t].mode ≠ 63
  · refine (if_pos announces).trans (congrArg (fun w => ({ s with meters := _, scheds := w } : State)) (upd_congr ?_))
    rw [Scheduler.started, decide_eq_true announces, Bool.or_true]
  · have same : upd g t (Scheduler.started s.trunks[t]) = g :=
      (upd_congr (by rw [Scheduler.started, decide_eq_false announces, Bool.or_false])).trans (upd_id g t)
    rw [same]
    exact if_neg announces

/-! ## The interval end -/

theorem idleUpdates_eq (s : State) : forAll State.idleUpdate allTrunks s = { s with
    trunks := upd (upd (upd s.trunks 0 (s.idled 0)) 1 (s.idled 1)) 2 (s.idled 2) } := by
  show State.idleUpdate 2 (State.idleUpdate 1 (State.idleUpdate 0 { s with trunks := s.trunks })) = _
  rw [idleUpdate_idled, idleUpdate_idled, idleUpdate_idled]
  rfl

theorem intervalStarts_eq (s : State) : forAll State.intervalStartTrunk allTrunks s = { s with
    meters := upd (upd (upd s.meters 0 (Meter.started s.trunks[0])) 1 (Meter.started s.trunks[1])) 2 (Meter.started s.trunks[2])
    scheds := upd (upd (upd s.scheds 0 (Scheduler.started s.trunks[0])) 1 (Scheduler.started s.trunks[1])) 2
      (Scheduler.started s.trunks[2]) } := by
  show State.intervalStartTrunk 2 (State.intervalStartTrunk 1
    (State.intervalStartTrunk 0 { s with meters := s.meters, scheds := s.scheds })) = _
  rw [intervalStartTrunk_eq, intervalStartTrunk_eq, intervalStartTrunk_eq]
  rfl

theorem intervalStarts_meters (s : State) (t : TrunkId) :
    (forAll State.intervalStartTrunk allTrunks s).meters[t] = s.meters[t].started s.trunks[t] := by
  rw [intervalStarts_eq]
  exact upd_three s.meters (fun t => Meter.started s.trunks[t]) t

theorem intervalStarts_scheds (s : State) (t : TrunkId) :
    (forAll State.intervalStartTrunk allTrunks s).scheds[t] = s.scheds[t].started s.trunks[t] := by
  rw [intervalStarts_eq]
  exact upd_three s.scheds (fun t => Scheduler.started s.trunks[t]) t

/-- The flags of the three reports together. -/
theorem reportFlags_three (r0 d0 r1 d1 r2 d2 : Bool) :
    reportFlags r0 d0 ||| reportFlags r1 d1 ||| reportFlags r2 d2 =
      reportFlags (r0 || r1 || r2) ((r0 && d0) || (r1 && d1) || (r2 && d2)) := by
  revert r0 d0 r1 d1 r2 d2
  decide

theorem exists_trunk {p : TrunkId → Prop} : (∃ t, p t) ↔ p 0 ∨ p 1 ∨ p 2 := by
  refine ⟨fun ⟨t, h⟩ => ?_, fun h => ?_⟩
  · have place : ∀ t : TrunkId, t = 0 ∨ t = 1 ∨ t = 2 := by decide
    rcases place t with rfl | rfl | rfl
    · exact .inl h
    · exact .inr (.inl h)
    · exact .inr (.inr h)
  · rcases h with h | h | h
    · exact ⟨0, h⟩
    · exact ⟨1, h⟩
    · exact ⟨2, h⟩

/-- The flags of the three reports by what holds of some trunk. -/
theorem reportFlags_exists (r d : TrunkId → Bool) : reportFlags (r 0) (d 0) ||| reportFlags (r 1) (d 1) ||| reportFlags (r 2) (d 2) =
    reportFlags (decide (∃ t, r t = true)) (decide (∃ t, r t = true ∧ d t = true)) := by
  rw [reportFlags_three]
  congr 1
  · simp [exists_trunk, Bool.or_assoc]
  · simp [exists_trunk, Bool.or_assoc]

theorem idled_state (s : State) (t : TrunkId) (c : TrunkControl) :
    (s.idled t c).state = c.state ∨ (c.state = .active ∧ (s.idled t c).state = .quiet) := by
  by_cases h : c.state = .active ∧ c.wait = .none ∧ c.config.quietLimit ≠ 0 ∧ c.config.quietLimit ≤ (s.idled t c).idleCount ∧
      (∀ n : NodeId, trunkOf n = t → s.table.queue n = [])
  · exact .inr ⟨h.1, if_pos h⟩
  · exact .inl (if_neg h)

theorem idled_down (s : State) (t : TrunkId) (c : TrunkControl) : (s.idled t c).state = .down ↔ c.state = .down := by
  rcases idled_state s t c with same | ⟨active, quiet⟩
  · rw [same]
  · simp [active, quiet]

/-- The interval end up to its trunk-free events. -/
def State.closed (short : Bool) (span : Nat) (s : State) : State :=
  (forAll State.intervalStartTrunk allTrunks (forAll State.idleUpdate allTrunks
    (forAll (State.reportTrunk short span) allTrunks s))).modInterval fun i =>
      { i with position := 0, length := i.pendingLength.getD i.length, pendingLength := none }

theorem closeInterval_closed (short : Bool) (span : Nat) (s : State) :
    s.closeInterval short span = (s.closed short span).trunksFree := by
  rw [State.closeInterval, State.closed]

theorem trunksFree_eq (s : State) : s.trunksFree = ((s.trunkFree 0).trunkFree 1).trunkFree 2 := by
  rw [State.trunksFree, forAll, allTrunks, List.foldl_cons, List.foldl_cons, List.foldl_cons, List.foldl_nil]

theorem modInterval_scheds (f : IntervalUnit → IntervalUnit) (s : State) : (s.modInterval f).scheds = s.scheds := rfl

theorem modInterval_meters (f : IntervalUnit → IntervalUnit) (s : State) : (s.modInterval f).meters = s.meters := rfl

theorem closed_trunks (short : Bool) (span : Nat) (s : State) (t : TrunkId) :
    (s.closed short span).trunks[t] = s.idled t s.trunks[t] := by
  unfold State.closed
  rw [reports_eq, idleUpdates_eq, intervalStarts_eq]
  exact upd_three s.trunks s.idled t

/-- The trunks after the idle counts of an interval end. -/
theorem idleUpdates_reports_trunks (short : Bool) (span : Nat) (s : State) (t : TrunkId) :
    (forAll State.idleUpdate allTrunks (forAll (State.reportTrunk short span) allTrunks s)).trunks[t] =
      s.idled t s.trunks[t] := by
  rw [reports_eq, idleUpdates_eq]
  exact upd_three s.trunks s.idled t

theorem idleUpdates_reports_scheds (short : Bool) (span : Nat) (s : State) :
    (forAll State.idleUpdate allTrunks (forAll (State.reportTrunk short span) allTrunks s)).scheds = s.scheds := by
  rw [reports_eq, idleUpdates_eq]

theorem idleUpdates_reports_meters (short : Bool) (span : Nat) (s : State) (t : TrunkId) :
    (forAll State.idleUpdate allTrunks (forAll (State.reportTrunk short span) allTrunks s)).meters[t] =
      s.reported short span t s.meters[t] := by
  rw [reports_eq, idleUpdates_eq]
  exact upd_three s.meters (s.reported short span) t

theorem closed_scheds (short : Bool) (span : Nat) (s : State) (t : TrunkId) :
    (s.closed short span).scheds[t] = s.scheds[t].started (s.idled t s.trunks[t]) := by
  rw [State.closed, modInterval_scheds, intervalStarts_scheds, idleUpdates_reports_trunks, idleUpdates_reports_scheds]

theorem closed_meters (short : Bool) (span : Nat) (s : State) (t : TrunkId) :
    (s.closed short span).meters[t] = (s.reported short span t s.meters[t]).started (s.idled t s.trunks[t]) := by
  rw [State.closed, modInterval_meters, intervalStarts_meters, idleUpdates_reports_trunks, idleUpdates_reports_meters]

/-- Whether a trunk is reported at an interval end (R157). -/
def State.reports (s : State) (t : TrunkId) : Bool := decide (s.trunks[t].state ≠ .disabled)

theorem closed_notices (short : Bool) (span : Nat) (s : State) : (s.closed short span).notices =
    s.notices.flagsIn s.startUp.part (reportFlags (decide (∃ t, s.reports t = true))
      (decide (∃ t, s.reports t = true ∧ s.degrades t s.meters[t] = true))) := by
  rw [← reportFlags_exists s.reports fun t => s.degrades t s.meters[t]]
  unfold State.closed
  rw [reports_eq, idleUpdates_eq, intervalStarts_eq]
  rfl

theorem closed_interval (short : Bool) (span : Nat) (s : State) : (s.closed short span).interval = { s.interval with
    position := 0, length := s.interval.pendingLength.getD s.interval.length, pendingLength := none } := by
  unfold State.closed
  rw [reports_eq, idleUpdates_eq, intervalStarts_eq]
  rfl

theorem closed_frame (short : Bool) (span : Nat) (s : State) : s.closed short span = { s with
    interval := (s.closed short span).interval, trunks := (s.closed short span).trunks, scheds := (s.closed short span).scheds
    meters := (s.closed short span).meters, notices := (s.closed short span).notices } := by
  unfold State.closed
  rw [reports_eq, idleUpdates_eq, intervalStarts_eq]
  rfl

theorem faultClass_eq (c : Counters) : faultClass c =
    if c.noStart + c.broken + c.stray = 0 then 0 else if c.noStart + c.broken + c.stray = 1 then 1
    else if c.noStart + c.broken + c.stray ≤ 5 then 2 else if c.noStart + c.broken + c.stray ≤ 20 then 3
    else if c.noStart + c.broken + c.stray ≤ 100 then 4 else 5 := rfl

theorem currentBacklog_eq (s : State) (t : TrunkId) : s.currentBacklog t =
    (s.table.live.filter fun o => decide (trunkOf o.node = t ∧ o.state = .queued)).length := by
  unfold State.currentBacklog
  simp only [Bool.decide_and]

/-- Settles O40: the reports, the idle counts, the indications and the new interval, each by the trunk. -/
theorem intervalCloseReports : Obligations.IntervalCloseReports := by
  intro short span s
  refine ⟨s.closed short span, (closeInterval_closed _ _ _).trans (trunksFree_eq _), closed_interval short span s, ?_⟩
  intro badReplies faults severe backlog reported degraded
  have reportsIff (t : TrunkId) : s.reports t = true ↔ reported t := decide_eq_true_iff
  have degradesIff (t : TrunkId) : s.degrades t s.meters[t] = true ↔ severe t ≠ s.meters[t].severe ∧
      s.trunks[t].config.degradeLimit ≠ 0 ∧ severe t = s.trunks[t].config.degradeLimit := by
    rw [State.degrades, Bool.and_eq_true, Bool.and_eq_true, decide_eq_true_iff, decide_eq_true_iff, decide_eq_true_iff]
    exact ⟨fun ⟨⟨met, on⟩, new⟩ => ⟨new, on, met⟩, fun ⟨new, on, met⟩ => ⟨⟨met, on⟩, new⟩⟩
  have someReport : (∃ t, s.reports t = true) ↔ ∃ t, reported t := exists_congr reportsIff
  have someDegrade : (∃ t, s.reports t = true ∧ s.degrades t s.meters[t] = true) ↔ ∃ t, degraded t :=
    exists_congr fun t => and_congr (reportsIff t) (degradesIff t)
  have notices := closed_notices short span s
  refine ⟨fun t => ⟨closed_trunks short span s t, closed_scheds short span s t, fun off => ?_, fun on => ?_⟩,
    fun none => ?_, fun one none => ?_, fun one => ?_, ?_⟩
  · have disabled : s.trunks[t].state = .disabled := not_not.mp off
    have kept : (s.idled t s.trunks[t]).state = .disabled := by
      rcases idled_state s t s.trunks[t] with same | ⟨active, -⟩
      · rw [same, disabled]
      · rw [disabled] at active
        cases active
    rw [closed_meters, State.reported, if_pos disabled, Meter.started, kept]
    rfl
  · have down : decide ((s.idled t s.trunks[t]).state = .down) = decide (s.trunks[t].state = .down) :=
      decide_eq_decide.mpr (idled_down s t s.trunks[t])
    rw [closed_meters, State.reported, if_neg on, Meter.started, down, currentBacklog_eq]
    rfl
  · rw [notices, decide_eq_false (mt someReport.mp fun ⟨t, h⟩ => none t h)]
    exact flagsIn_zero _ _
  · rw [notices, decide_eq_true (someReport.mpr one), decide_eq_false (mt someDegrade.mp none)]
    exact flagsIn_flagged (by decide)
  · rw [notices, decide_eq_true (someReport.mpr (one.imp fun t h => h.1)), decide_eq_true (someDegrade.mpr one)]
    exact flagsIn_flagged (by decide)
  · exact closed_frame short span s

end Sys2Proof.Machine
end

section
/-! PROOFS. The supply fault (R72, R73, R109, R115, R116). -/

namespace Sys2Proof.Machine

open Sys2Proof

/-! ## The exchange aborted -/

theorem abortExchange_node {s : State} {t : TrunkId} {x : Exchange} (exch : s.engines[t].exch = some x) (node : x.node ≠ none)
    (on : s.trunks[t].state ≠ .disabled) :
    (s.abortExchange t).meters = upd s.meters t fun m => { m with counts := m.counts.aborted x } := by
  unfold State.abortExchange
  rw [exch]
  dsimp only
  rw [if_pos (Option.isSome_iff_ne_none.mpr node), State.count, if_neg on, forAll_setHeld]
  rfl

theorem abortExchange_idle {s : State} {t : TrunkId} (idle : ¬ ∃ x, s.engines[t].exch = some x ∧ x.node ≠ none) :
    (s.abortExchange t).meters = s.meters := by
  unfold State.abortExchange
  split
  next x exch =>
    have silent : ¬ x.node.isSome = true := fun h => idle ⟨x, exch, Option.isSome_iff_ne_none.mp h⟩
    rw [if_neg silent, forAll_setHeld]
    rfl
  next => rw [forAll_setHeld]; rfl

theorem abortExchange_held (s : State) (t : TrunkId) (n : NodeId) :
    (s.abortExchange t).held[n] = if trunkOf n = t then none else s.held[n] := by
  rw [State.abortExchange_eq]
  exact trunkNodes_upd_get (fun _ => none) t s.held n

theorem abortExchange_engines (s : State) (t m : TrunkId) :
    (s.abortExchange t).engines[m] = if m = t then ⟨.idle, none, none, [], false, 0⟩ else s.engines[m] := by
  rw [State.abortExchange_eq]
  exact upd_get s.engines t m fun _ => Engine.reset

theorem abortExchange_table (s : State) (t : TrunkId) : (s.abortExchange t).table = s.table := by
  rw [State.abortExchange_eq]

theorem abortExchange_frame (s : State) (t : TrunkId) : s.abortExchange t = { s with
    held := (s.abortExchange t).held, engines := (s.abortExchange t).engines, meters := (s.abortExchange t).meters } := by
  rw [State.abortExchange_eq]

theorem abortExchange_meters_other {s : State} {t : TrunkId} (on : s.trunks[t].state ≠ .disabled) {m : TrunkId} (other : m ≠ t) :
    (s.abortExchange t).meters[m] = s.meters[m] := by
  by_cases busy : ∃ x, s.engines[t].exch = some x ∧ x.node ≠ none
  · obtain ⟨x, exch, node⟩ := busy
    exact (congrArg (fun v : Vector Meter 3 => v[m]) (abortExchange_node exch node on)).trans (upd_other _ _ _ _ other)
  · exact congrArg (fun v : Vector Meter 3 => v[m]) (abortExchange_idle busy)

theorem Counters.aborted_eq (x : Exchange) (c : Counters) : c.aborted x = { c with
    started := min 65535 (c.started + 1), noStart := min 65535 (c.noStart + x.noStart)
    broken := min 65535 (c.broken + x.broken), stray := min 65535 (c.stray + x.stray)
    retries := min 65535 (c.retries + x.retriesSent) } := rfl

/-! ## The fault noticed -/

theorem faultNotice_eq (t : TrunkId) (s : State) : s.faultNotice t = { s with
    notices := { (s.flagged 0x0008).notices with faultSeen := upd s.notices.faultSeen t fun _ => true } } := rfl

theorem wentDown_notices (t : TrunkId) (e : State) :
    (e.wentDown t).notices = { (e.flagged 0x0008).notices with faultSeen := upd e.notices.faultSeen t fun _ => true } := by
  rw [State.wentDown_eq, faultNotice_eq]

theorem wentDown_trunks (t : TrunkId) (e : State) :
    (e.wentDown t).trunks = upd e.trunks t fun c => { c with state := .down, wait := .recovery } := by
  rw [State.wentDown_eq]

theorem wentDown_supplies (t : TrunkId) (e : State) :
    (e.wentDown t).supplies = upd e.supplies t fun m => { m with faultFilter := false, settleTimer := false } := by
  rw [State.wentDown_eq]

theorem wentDown_scheds (t : TrunkId) (e : State) :
    (e.wentDown t).scheds = upd e.scheds t fun g => { g with announce := false } := by
  rw [State.wentDown_eq]

theorem wentDown_nodeScheds (t : TrunkId) (e : State) :
    (e.wentDown t).nodeScheds = (trunkNodes t).foldl (fun v j => upd v j NodeSchedule.cleared) e.nodeScheds := by
  rw [State.wentDown_eq]

theorem wentDown_meters (t : TrunkId) (e : State) :
    (e.wentDown t).meters = upd e.meters t fun m => { m with wasDown := true } := by
  rw [State.wentDown_eq]

theorem wentDown_frame (t : TrunkId) (e : State) : e.wentDown t = { e with
    trunks := (e.wentDown t).trunks, supplies := (e.wentDown t).supplies, scheds := (e.wentDown t).scheds
    nodeScheds := (e.wentDown t).nodeScheds, meters := (e.wentDown t).meters, notices := (e.wentDown t).notices } := by
  rw [State.wentDown_eq]

theorem enterDisabled_notices (t : TrunkId) (e : State) : (e.enterDisabled t).notices = e.notices := by
  rw [State.enterDisabled_eq]

theorem enterDisabled_startUp (t : TrunkId) (e : State) : (e.enterDisabled t).startUp = e.startUp := by
  rw [State.enterDisabled_eq]

theorem supplyFault_running {s : State} {t : TrunkId} (filter : s.supplies[t].faultFilter = true)
    (running : s.trunks[t].state = .active ∨ s.trunks[t].state = .quiet) : s.supplyFault t = s.faultRunning t := by
  unfold State.supplyFault
  rw [if_pos filter]
  rcases running with state | state
  · rw [state]
  · rw [state]

theorem supplyFault_stopping {s : State} {t : TrunkId} (filter : s.supplies[t].faultFilter = true)
    (stopping : s.trunks[t].state = .stopping) : s.supplyFault t = s.faultStopping t := by
  unfold State.supplyFault
  rw [if_pos filter, stopping]

theorem supplyFault_idle {s : State} {t : TrunkId}
    (idle : s.supplies[t].faultFilter = false ∨ s.trunks[t].state = .down ∨ s.trunks[t].state = .disabled) :
    s.supplyFault t = s := by
  unfold State.supplyFault
  rcases idle with filter | state | state
  · exact if_neg (Bool.eq_false_iff.mp filter)
  · rw [state]
    exact ite_self s
  · rw [state]
    exact ite_self s

theorem stoppingOrderEnded_order {s : State} {t : TrunkId} {x : Exchange} {tag : Byte} (exch : s.engines[t].exch = some x)
    (order : x.order = some tag) : s.stoppingOrderEnded t = (s.abortExchange t).endOrder tag .cancelled 0 := by
  unfold State.stoppingOrderEnded
  rw [exch, Option.bind_some, order]

theorem stoppingOrderEnded_none {s : State} {t : TrunkId}
    (none : ¬ ∃ x tag, s.engines[t].exch = some x ∧ x.order = some tag) : s.stoppingOrderEnded t = s.abortExchange t := by
  unfold State.stoppingOrderEnded
  split
  next tag found =>
    obtain ⟨x, exch, order⟩ := Option.bind_eq_some_iff.mp found
    exact absurd ⟨x, tag, exch, order⟩ none
  next => rfl

/-- Settles O53: the exchange is aborted, then by the trunk's state its orders end and it goes DOWN, or its order ends and it is
DISABLED. -/
theorem supplyFaultEffect : Obligations.SupplyFaultEffect := by
  intro t s ready running nodeExchange c aborted noticed
  have run : exec (.supplyFault t) s = .next (s.supplyFault t) := congrArg _ (whenReady_ready ready _)
  rw [run]
  have aborts (on : s.trunks[t].state ≠ .disabled) : aborted (s.abortExchange t) := by
    refine ⟨abortExchange_held s t, abortExchange_engines s t, fun x exch node => ?_,
      fun m other => abortExchange_meters_other on other, abortExchange_idle, abortExchange_frame s t⟩
    exact (congrArg (fun v : Vector Meter 3 => v[t]) (abortExchange_node exch node on)).trans (upd_same _ _ _)
  have notices {e u : State} (frame : OrderFrame (s.abortExchange t) e)
      (h : u.notices = { (e.flagged 0x0008).notices with faultSeen := upd e.notices.faultSeen t fun _ => true }) : noticed e u := by
    have seen : e.notices.faultSeen = s.notices.faultSeen := frame.faultSeen.trans (by rw [State.abortExchange_eq])
    refine ⟨by rw [h], fun m => ?_⟩
    rw [h, seen]
    exact upd_get s.notices.faultSeen t m _
  refine ⟨fun idle => by rw [supplyFault_idle idle], fun filter on => ?_, fun filter on => ?_⟩
  · have frame := OrderFrame.trunkOrdersEnded t s
    have trunks : (s.trunkOrdersEnded t).trunks = s.trunks := frame.trunks.trans (by rw [State.abortExchange_eq])
    have supplies : (s.trunkOrdersEnded t).supplies = s.supplies := frame.supplies.trans (by rw [State.abortExchange_eq])
    have scheds : (s.trunkOrdersEnded t).scheds = s.scheds := frame.scheds.trans (by rw [State.abortExchange_eq])
    have nodeScheds : (s.trunkOrdersEnded t).nodeScheds = s.nodeScheds :=
      frame.nodeScheds.trans (by rw [State.abortExchange_eq])
    have tags : (s.abortExchange t).trunkQueueTags t = (trunkNodes t).flatMap s.table.queue := by
      rw [State.trunkQueueTags, abortExchange_table]
    rw [supplyFault_running filter on, State.faultRunning_eq]
    refine ⟨_, _, s.trunkOrdersEnded t, rfl, aborts ?_, ?_, notices frame (wentDown_notices t _), fun m => ?_, ?_, ?_, ?_,
      fun n => ?_, fun m other => ⟨?_, ?_, ?_⟩, wentDown_frame t _⟩
    · rcases on with state | state
      · rw [state]
        exact nofun
      · rw [state]
        exact nofun
    · rw [State.trunkOrdersEnded, tags]
      rfl
    · rw [wentDown_meters, upd_get]
      split
      next same => rw [same]
      next => rfl
    · rw [wentDown_trunks, upd_same, trunks]
    · rw [wentDown_supplies, upd_same, supplies]
    · rw [wentDown_scheds, upd_same, scheds]
    · rw [wentDown_nodeScheds, trunkNodes_upd_get, nodeScheds]
      rfl
    · rw [wentDown_trunks, upd_other _ _ _ _ other, trunks]
    · rw [wentDown_supplies, upd_other _ _ _ _ other, supplies]
    · rw [wentDown_scheds, upd_other _ _ _ _ other, scheds]
  · rw [supplyFault_stopping filter on, State.faultStopping_eq]
    refine ⟨_, _, _, rfl, aborts (by rw [on]; exact nofun), fun x tag exch order => stoppingOrderEnded_order exch order,
      fun none => stoppingOrderEnded_none none, notices (OrderFrame.stoppingOrderEnded t s) ?_, ?_⟩
    · rw [faultNotice_eq, State.flagged, State.flagged, enterDisabled_notices, enterDisabled_startUp]
    · rw [faultNotice_eq]

end Sys2Proof.Machine
end

section
/-! PROOFS. The end of an order and its posting (R17, R43, R63, R126, R129, R130). -/

namespace Sys2Proof.Machine

open Sys2Proof

/-! ## The segments closed -/

theorem closeSegments_seg (o : Order) (p : SegmentPool) (g : SegId) : (o.closeSegments p).seg g =
    if o.kind = .bulkFetch ∧ g ∈ o.chain then (p.seg g).closed else p.seg g := by
  unfold Order.closeSegments
  by_cases fetch : o.kind = .bulkFetch
  · rw [if_pos fetch, close_seg]
    simp only [fetch, true_and]
  · rw [if_neg fetch, if_neg fun h => fetch h.1]

/-- A segment of a fetch that its end frees (R43). -/
def Order.Unused (o : Order) (p : SegmentPool) (g : SegId) : Prop :=
  (o.kind = .bulkFetch ∧ g ∈ o.chain ∧ (p.seg g).owner = .trunkSide) ∧ (p.seg g).fill = 0

theorem closeFetchSegment_freeList (p : SegmentPool) (g h : SegId) : g ∈ (p.closeFetchSegment h).freeList ↔
    g ∈ p.freeList ∨ (g = h ∧ (p.seg h).owner = .trunkSide ∧ (p.seg h).fill = 0) := by
  unfold SegmentPool.closeFetchSegment
  split
  next trunk =>
    split
    next empty => simp [trunk, empty, SegmentPool.freeSegment, mem_insertFree, or_comm]
    next full => simp [full, SegmentPool.setOwner]
  next host => simp [host]

theorem closeFetchSegment_mem (p : SegmentPool) (h : SegId) : (p.closeFetchSegment h).mem = p.mem := by
  unfold SegmentPool.closeFetchSegment
  split
  · split
    · rfl
    · rfl
  · rfl

theorem close_freeList (l : List SegId) (p : SegmentPool) (g : SegId) :
    g ∈ (l.foldl (fun p g => p.closeFetchSegment g) p).freeList ↔
      g ∈ p.freeList ∨ (g ∈ l ∧ (p.seg g).owner = .trunkSide ∧ (p.seg g).fill = 0) := by
  induction l generalizing p with
  | nil => simp
  | cons h l ih =>
    have one : (p.closeFetchSegment h).seg g = if g = h then (p.seg g).closed else p.seg g := by
      have single := close_seg [h] p g
      simp only [List.mem_singleton] at single
      exact single
    rw [List.foldl_cons, ih, closeFetchSegment_freeList, one, List.mem_cons]
    by_cases e : g = h
    · subst e
      by_cases open_ : (p.seg g).owner = .trunkSide ∧ (p.seg g).fill = 0
      · simp [open_]
      · rw [if_pos rfl]
        have closed : ¬ ((p.seg g).closed.owner = .trunkSide ∧ (p.seg g).closed.fill = 0) := by
          unfold Segment.closed
          split
          next trunk => rw [if_neg fun empty => open_ ⟨trunk, empty⟩]; exact fun h => nomatch h.1
          next => exact open_
        simp [open_, closed]
    · simp [e]

theorem close_mem (l : List SegId) (p : SegmentPool) : (l.foldl (fun p g => p.closeFetchSegment g) p).mem = p.mem := by
  induction l generalizing p with
  | nil => rfl
  | cons h l ih => rw [List.foldl_cons, ih, closeFetchSegment_mem]

theorem closeSegments_freeList (o : Order) (p : SegmentPool) (g : SegId) :
    g ∈ (o.closeSegments p).freeList ↔ g ∈ p.freeList ∨ o.Unused p g := by
  unfold Order.closeSegments Order.Unused
  by_cases fetch : o.kind = .bulkFetch
  · rw [if_pos fetch, close_freeList]
    simp only [fetch, true_and, and_assoc]
  · rw [if_neg fetch]
    simp [fetch]

theorem closeSegments_mem (o : Order) (p : SegmentPool) : (o.closeSegments p).mem = p.mem := by
  unfold Order.closeSegments
  split
  · exact close_mem _ _
  · rfl

theorem chainAtEnd_eq (o : Order) (p : SegmentPool) [DecidablePred (o.Unused p)] :
    o.chainAtEnd p = o.chain.filter fun g => !decide (o.Unused p g) := by
  unfold Order.chainAtEnd SegmentPool.keptByFetch
  by_cases fetch : o.kind = .bulkFetch
  · rw [if_pos fetch]
    refine List.filter_congr fun g mem => ?_
    rw [← Bool.decide_and]
    exact congrArg Bool.not (decide_eq_decide.mpr ⟨fun h => ⟨⟨fetch, mem, h.1⟩, h.2⟩, fun h => ⟨h.1.2.2, h.2⟩⟩)
  · rw [if_neg fetch]
    exact (List.filter_eq_self.mpr fun g _ => by simp [Order.Unused, fetch]).symm

/-! ## The entry ended -/

theorem endProgress_eq (o : Order) : o.endProgress = if o.state = .filling ∨ o.state = .queued then 0 else o.progress := by
  unfold Order.endProgress
  cases o.state <;> rfl

theorem endEntry_find_same {t : OrderTable} {tag : Byte} {o : Order} (found : t.find tag = some o) (r : Result) (nak : Byte)
    (now : Word) (chain : List SegId) : (t.endEntry o r nak now chain).find tag = some (o.ended r nak now chain) := by
  have own : o.tag = tag := (OrderTable.find_some found).2
  rw [← own] at found ⊢
  exact OrderTable.find_update_same (f := Order.ended r nak now chain) (fun _ => rfl) found

theorem endEntry_find_other {t : OrderTable} {u : Byte} {o : Order} (other : u ≠ o.tag) (r : Result) (nak : Byte)
    (now : Word) (chain : List SegId) : (t.endEntry o r nak now chain).find u = t.find u :=
  OrderTable.find_update_other (f := Order.ended r nak now chain) (fun _ => rfl) other

/-! ## The record posted -/

theorem postHead_full {s : State} (full : 32 ≤ s.completions.records.length) : s.postHead = s := by
  unfold State.postHead
  split
  · rfl
  · exact if_neg (Nat.not_lt.mpr full)

theorem post_full {s : State} (full : 32 ≤ s.completions.records.length) (n : Nat) : State.post n s = s := by
  induction n with
  | zero => rfl
  | succ n ih =>
    show State.post n s.postHead = s
    rw [postHead_full full, ih]

theorem postHead_posts {s : State} {r : CompletionRecord} {rest : List CompletionRecord} (backlog : s.table.backlog = r :: rest)
    (room : s.completions.records.length < 32) : s.postHead = (s.posted r rest).takeCompletionsLevel := by
  unfold State.postHead State.posted
  rw [backlog]
  refine (if_pos room).trans ?_
  by_cases parks : r.kind = .bulkFetch ∧ 0 < r.progress
  · simp only [if_pos parks]
    rfl
  · simp only [if_neg parks]
    rfl

theorem posted_backlog (r : CompletionRecord) (rest : List CompletionRecord) (s : State) :
    (s.posted r rest).table.backlog = rest := by
  unfold State.posted
  dsimp only
  split
  · rfl
  · rfl

theorem posted_completions (r : CompletionRecord) (rest : List CompletionRecord) (s : State) :
    (s.posted r rest).completions = { s.completions with
      records := s.completions.records ++ [⟨r, s.interval.tick⟩]
      headAged := if s.completions.records = [] then false else s.completions.headAged } := by
  unfold State.posted
  simp only [List.isEmpty_iff]

theorem posted_parks_table {r : CompletionRecord} (parks : r.kind = .bulkFetch ∧ 0 < r.progress) (rest : List CompletionRecord)
    (s : State) : (s.posted r rest).table =
      OrderTable.update r.tag (fun o => { o with state := .parked }) { s.table with backlog := rest } := if_pos parks

theorem posted_parks_pool {r : CompletionRecord} (parks : r.kind = .bulkFetch ∧ 0 < r.progress) (rest : List CompletionRecord)
    (s : State) : (s.posted r rest).pool = s.pool := if_pos parks

theorem posted_frees_table {r : CompletionRecord} (frees : ¬ (r.kind = .bulkFetch ∧ 0 < r.progress)) (rest : List CompletionRecord)
    (s : State) : (s.posted r rest).table = OrderTable.release r.tag { s.table with backlog := rest } := if_neg frees

theorem posted_frees_pool {r : CompletionRecord} (frees : ¬ (r.kind = .bulkFetch ∧ 0 < r.progress)) (rest : List CompletionRecord)
    (s : State) : (s.posted r rest).pool = s.pool.freeAll (s.table.chainOf r.tag) := if_neg frees

theorem posted_find_other {r : CompletionRecord} {rest : List CompletionRecord} {s : State} {v : Byte} (other : v ≠ r.tag) :
    (s.posted r rest).table.find v = s.table.find v := by
  by_cases parks : r.kind = .bulkFetch ∧ 0 < r.progress
  · rw [posted_parks_table parks]
    exact OrderTable.find_update_other (f := fun o => { o with state := .parked }) (fun _ => rfl) other
  · rw [posted_frees_table parks]
    exact (OrderTable.find_release _ _ _).trans (if_neg other)

theorem postEnded_waits {s : State} (full : 32 ≤ s.completions.records.length) (waits : s.table.backlog ≠ []) :
    s.postEnded = s.latch .backlog := by
  unfold State.postEnded
  rw [post_full full]
  exact if_neg fun h => waits (List.isEmpty_iff.mp h)

theorem postEnded_posts {s : State} {r : CompletionRecord} (backlog : s.table.backlog = [r])
    (room : s.completions.records.length < 32) : s.postEnded = (s.posted r []).takeCompletionsLevel := by
  unfold State.postEnded
  have one : State.post s.table.backlog.length s = (s.posted r []).takeCompletionsLevel := by
    rw [backlog]
    exact postHead_posts backlog room
  rw [one]
  refine if_pos ?_
  show (s.posted r []).table.backlog.isEmpty = true
  unfold State.posted
  dsimp only
  split
  · rfl
  · rfl

/-- What posting leaves as it was. -/
structure PostFrame (s t : State) : Prop where
  frame : t = { s with table := t.table, pool := t.pool, completions := t.completions, notices := t.notices }
  queues : t.table.queues = s.table.queues
  mem : t.pool.mem = s.pool.mem

theorem PostFrame.refl (s : State) : PostFrame s s := ⟨rfl, rfl, rfl⟩

theorem PostFrame.trans {a b c : State} (h : PostFrame a b) (k : PostFrame b c) : PostFrame a c :=
  ⟨by rw [k.frame, h.frame], k.queues.trans h.queues, k.mem.trans h.mem⟩

theorem PostFrame.postHead (s : State) : PostFrame s s.postHead := by
  rcases s.postHead_eq with same | ⟨r, rest, -, -, posts⟩
  · rw [same]
    exact .refl s
  · rw [posts]
    refine ⟨rfl, ?_, ?_⟩
    · show (s.posted r rest).table.queues = _
      unfold State.posted
      dsimp only
      split
      · rfl
      · rfl
    · show (s.posted r rest).pool.mem = _
      unfold State.posted
      dsimp only
      split
      · rfl
      · exact SegmentPool.freeAll_mem _ _

theorem PostFrame.postEnded (s : State) : PostFrame s s.postEnded :=
  postEnded_inv (p := PostFrame s) (fun t h => h.trans (.postHead t)) (fun _ h => h.trans ⟨rfl, rfl, rfl⟩) (.refl s)

theorem endOrder_found {s : State} {tag : Byte} {o : Order} (found : s.table.find tag = some o) (r : Result) (nak : Byte) :
    s.endOrder tag r nak = (s.closeOrder o r nak).postEnded := by
  rw [State.endOrder_eq, found]

theorem endOrder_missing {s : State} {tag : Byte} (missing : s.table.find tag = none) (r : Result) (nak : Byte) :
    s.endOrder tag r nak = s := by
  rw [State.endOrder_eq, missing]

theorem levelSet_notices_congr {s t : State} (notices : s.notices = t.notices) (startUp : s.startUp = t.startUp) (f : Word)
    (b : Bool) : (s.levelSet f b).notices = (t.levelSet f b).notices := by
  simp only [State.levelSet, notices, startUp]

theorem flagged_notices_congr {s t : State} (notices : s.notices = t.notices) (startUp : s.startUp = t.startUp) (f : Word) :
    (s.flagged f).notices = (t.flagged f).notices := by
  simp only [State.flagged, notices, startUp]

theorem closeOrder_meters (o : Order) (r : Result) (nak : Byte) (s : State) : (s.closeOrder o r nak).meters =
    if s.trunks[trunkOf o.node].state = .disabled then s.meters
    else upd s.meters (trunkOf o.node) fun m => { m with counts := m.counts.orderEnd r } := by
  unfold State.closeOrder
  rw [State.dropHeld_eq]
  unfold State.count
  split
  next off => exact (if_pos off).symm
  next on => exact (if_neg on).symm

theorem orderEnd_done (c : Counters) : c.orderEnd .done = { c with ordersDone := min 65535 (c.ordersDone + 1) } := rfl

theorem orderEnd_other {r : Result} (other : r ≠ .done) (c : Counters) :
    c.orderEnd r = { c with ordersOther := min 65535 (c.ordersOther + 1) } := by
  cases r with
  | done => exact absurd rfl other
  | _ => rfl

/-- Settles O24: the entry is ended and its segments closed; then the record is posted, or it waits. -/
theorem orderEndAndPosting : Obligations.OrderEndAndPosting := by
  intro tag r nak s o found now k progress data record open_ unused closed chain ended parks u
  have own : o.tag = tag := (OrderTable.find_some found).2
  have end_ : u = (s.closeOrder o r nak).postEnded := endOrder_found found r nak
  have posting := PostFrame.postEnded (s.closeOrder o r nak)
  rw [← end_] at posting
  have chainEq : o.chainAtEnd s.pool = chain := @chainAtEnd_eq o s.pool fun g => inferInstanceAs (Decidable (unused g))
  have progressEq : o.endProgress = progress := endProgress_eq o
  have endedEq : o.ended r nak now chain = ended := congrArg (fun p => ({ o with
    state := .ended, mark := none, result := some r, nakReason := nak, endStamp := now, progress := p, chain := chain } : Order))
    progressEq
  have recordEq : o.record r nak now = record := by
    unfold Order.record
    rw [own, progressEq]
  have closedEq (g : SegId) : (o.closeSegments s.pool).seg g = closed g := by
    rw [closeSegments_seg, Segment.closed]
    by_cases mine : o.kind = .bulkFetch ∧ g ∈ o.chain
    · rw [if_pos mine]
      by_cases trunk : (s.pool.seg g).owner = .trunkSide
      · have isOpen : open_ g := ⟨mine.1, mine.2, trunk⟩
        rw [if_pos trunk]
        by_cases empty : (s.pool.seg g).fill = 0
        · exact (if_pos empty).trans (if_pos ⟨isOpen, empty⟩).symm
        · exact (if_neg empty).trans ((if_neg fun h : unused g => empty h.2).trans (if_pos isOpen)).symm
      · have shut : ¬ open_ g := fun h => trunk h.2.2
        exact (if_neg trunk).trans ((if_neg fun h : unused g => shut h.1).trans (if_neg shut)).symm
    · have shut : ¬ open_ g := fun h => mine ⟨h.1, h.2.1⟩
      exact (if_neg mine).trans ((if_neg fun h : unused g => shut h.1).trans (if_neg shut)).symm
  have table : (s.closeOrder o r nak).table = s.table.endEntry o r nak now chain := by rw [State.closeOrder_eq, chainEq]
  have pool : (s.closeOrder o r nak).pool = o.closeSegments s.pool := by rw [State.closeOrder_eq]
  have completions : (s.closeOrder o r nak).completions = s.completions := by rw [State.closeOrder_eq]
  have notices : (s.closeOrder o r nak).notices = s.notices := by rw [State.closeOrder_eq]
  have startUp : (s.closeOrder o r nak).startUp = s.startUp := by rw [State.closeOrder_eq]
  have interval : (s.closeOrder o r nak).interval = s.interval := by rw [State.closeOrder_eq]
  have held : u.held = (s.dropHeld o).held := by rw [posting.frame, State.closeOrder_eq]
  have meters : u.meters = (s.closeOrder o r nak).meters := by rw [posting.frame]
  have freeList (g : SegId) : g ∈ (o.closeSegments s.pool).freeList ↔ g ∈ s.pool.freeList ∨ unused g :=
    closeSegments_freeList o s.pool g
  have backlog : (s.closeOrder o r nak).table.backlog = s.table.backlog ++ [record] := by rw [table, ← recordEq]; rfl
  have foundEnded : (s.closeOrder o r nak).table.find tag = some ended := by
    rw [table, ← endedEq]
    exact endEntry_find_same found r nak now chain
  have foundOther {v : Byte} (other : v ≠ tag) : (s.closeOrder o r nak).table.find v = s.table.find v := by
    rw [table]
    exact endEntry_find_other (own ▸ other) r nak now chain
  have waits (full : 32 ≤ s.completions.records.length) : u = (s.closeOrder o r nak).latch .backlog := by
    rw [end_]
    refine postEnded_waits (by rw [completions]; exact full) ?_
    rw [backlog]
    exact List.append_ne_nil_of_right_ne_nil _ (List.cons_ne_nil _ _)
  have posts (room : s.completions.records.length < 32) (none : s.table.backlog = []) :
      u = ((s.closeOrder o r nak).posted record []).takeCompletionsLevel := by
    rw [end_]
    refine postEnded_posts ?_ (by rw [completions]; exact room)
    rw [backlog, none, List.nil_append]
  refine ⟨fun m => ?_, fun m => ?_, fun off => ?_, fun on => ⟨fun done => ?_, fun other => ?_, fun m other => ?_⟩, ?_, fun full => ?_,
    fun room none => ?_, fun v other place => ?_, ?_⟩
  · show u.table.queues[m] = _
    rw [posting.queues, table]
    show (upd s.table.queues o.node _)[m] = _
    rw [upd_get, own]
    rfl
  · rw [held, State.dropHeld_held, own]
  · rw [meters, closeOrder_meters, if_pos off]
  · rw [meters, closeOrder_meters, if_neg on, upd_same, done, orderEnd_done]
  · rw [meters, closeOrder_meters, if_neg on, upd_same, orderEnd_other other]
  · rw [meters, closeOrder_meters, if_neg on, upd_other _ _ _ _ other]
  · rw [posting.mem, pool, closeSegments_mem]
  · rw [waits full]
    refine ⟨backlog, completions, foundEnded, fun g => ?_, ?_⟩
    · show (s.closeOrder o r nak).pool.seg g = _ ∧ (g ∈ (s.closeOrder o r nak).pool.freeList ↔ _)
      rw [pool]
      exact ⟨closedEq g, freeList g⟩
    · exact flagged_notices_congr notices startUp 0x0100
  · have recordParks : record.kind = .bulkFetch ∧ 0 < record.progress ↔ parks := Iff.rfl
    rw [posts room none]
    refine ⟨posted_backlog _ _ _, ?_, fun isParked => ?_, fun frees => ?_, ?_⟩
    · show ((s.closeOrder o r nak).posted record []).completions = _
      rw [posted_completions, completions, interval]
    · show ((s.closeOrder o r nak).posted record []).table.find tag = _ ∧ ∀ g : SegId,
        ((s.closeOrder o r nak).posted record []).pool.seg g = _ ∧
          (g ∈ ((s.closeOrder o r nak).posted record []).pool.freeList ↔ _)
      rw [posted_parks_table isParked, posted_parks_pool isParked, pool]
      exact ⟨OrderTable.find_update_same (f := fun o => { o with state := .parked }) (fun _ => rfl) foundEnded,
        fun g => ⟨closedEq g, freeList g⟩⟩
    · show ((s.closeOrder o r nak).posted record []).table.find tag = _ ∧ ∀ g : SegId,
        ((s.closeOrder o r nak).posted record []).pool.seg g = _ ∧
          (g ∈ ((s.closeOrder o r nak).posted record []).pool.freeList ↔ _)
      have chainOf : (s.closeOrder o r nak).table.chainOf record.tag = chain := by
        rw [OrderTable.chainOf, foundEnded]
      rw [posted_frees_table frees, posted_frees_pool frees, chainOf, pool]
      refine ⟨(OrderTable.find_release _ _ _).trans (if_pos rfl), fun g => ⟨?_, ?_⟩⟩
      · rw [SegmentPool.freeAll_seg, closedEq]
      · rw [SegmentPool.mem_freeList_freeAll, freeList, or_assoc]
    · exact levelSet_notices_congr (s := (s.closeOrder o r nak).posted record []) notices startUp _ _
  · rcases place with none | full
    · by_cases full : 32 ≤ s.completions.records.length
      · rw [waits full]
        exact foundOther other
      · rw [posts (Nat.lt_of_not_le full) none]
        show ((s.closeOrder o r nak).posted record []).table.find v = _
        rw [posted_find_other other]
        exact foundOther other
    · rw [waits full]
      exact foundOther other
  · rw [posting.frame, State.closeOrder_eq]

end Sys2Proof.Machine
end

section
/-! PROOFS. TAKE_COMPLETIONS (R130 to R132, R135): the records posted from the backlog, one after another. -/

namespace Sys2Proof.Machine

open Sys2Proof

/-! ## Posting until the queue is full or nothing waits -/

theorem postHead_empty {s : State} (empty : s.table.backlog = []) : s.postHead = s := by
  unfold State.postHead
  rw [empty]

theorem post_add (a b : Nat) (s : State) : State.post (a + b) s = State.post b (State.post a s) := by
  induction a generalizing s with
  | zero => rw [Nat.zero_add]; rfl
  | succ a ih => rw [Nat.add_right_comm]; exact ih s.postHead

theorem post_idle {s : State} (idle : s.table.backlog = [] ∨ 32 ≤ s.completions.records.length) (n : Nat) : State.post n s = s := by
  rcases idle with empty | full
  · induction n with
    | zero => rfl
    | succ n ih =>
      show State.post n s.postHead = s
      rw [postHead_empty empty, ih]
  · exact post_full full n

/-- A record's tail in the Completion Queue (R129). -/
def postedAt (now : Word) (c : CompletionRecord) : Posted := ⟨c, now⟩

/-- The state `t` is `s` after the records of `l` have been posted, which leaves `rest` in the backlog. -/
structure Posts (s t : State) (l rest : List CompletionRecord) : Prop where
  frame : PostFrame s t
  records : t.completions.records = s.completions.records ++ l.map (postedAt s.interval.tick)
  backlog : t.table.backlog = rest
  watermark : t.completions.watermark = s.completions.watermark
  ageLimit : t.completions.ageLimit = s.completions.ageLimit
  headAged : (s.completions.records = [] → s.completions.headAged = false) → t.completions.headAged = s.completions.headAged
  level : ∀ b, (t.levelSet 0x0001 b).notices = (s.levelSet 0x0001 b).notices

theorem levelSet_levelSet (f : Word) (a b : Bool) (s : State) : (s.levelSet f a).levelSet f b = s.levelSet f b := by
  have off (x : Word) : (x ||| f) &&& ~~~f = x &&& ~~~f := by
    ext i hi
    simp only [BitVec.getElem_or, BitVec.getElem_and, BitVec.getElem_not]
    cases x[i] <;> cases f[i] <;> rfl
  have on (x : Word) : x &&& ~~~f ||| f = x ||| f := by
    ext i hi
    simp only [BitVec.getElem_or, BitVec.getElem_and, BitVec.getElem_not]
    cases x[i] <;> cases f[i] <;> rfl
  unfold State.levelSet
  cases a <;> cases b <;> simp [off, on, BitVec.or_assoc, BitVec.and_assoc]

theorem Posts.refl (s : State) : Posts s s [] s.table.backlog :=
  ⟨.refl s, by simp, rfl, rfl, rfl, fun _ => rfl, fun _ => rfl⟩

theorem Posts.cons {s t : State} {c : CompletionRecord} {l rest : List CompletionRecord}
    (backlog : s.table.backlog = c :: (l ++ rest)) (room : s.completions.records.length < 32) (h : Posts s.postHead t l rest) :
    Posts s t (c :: l) rest := by
  have head := postHead_posts backlog room
  have completions : s.postHead.completions = { s.completions with
      records := s.completions.records ++ [⟨c, s.interval.tick⟩]
      headAged := if s.completions.records = [] then false else s.completions.headAged } := by
    rw [head]
    exact posted_completions c (l ++ rest) s
  have interval : s.postHead.interval = s.interval := by rw [(PostFrame.postHead s).frame]
  refine ⟨(PostFrame.postHead s).trans h.frame, ?_, h.backlog, ?_, ?_, fun fresh => ?_, fun b => (h.level b).trans ?_⟩
  · rw [h.records, completions, interval, List.append_assoc]
    rfl
  · rw [h.watermark, completions]
  · rw [h.ageLimit, completions]
  · rw [h.headAged (by rw [completions]; exact fun empty => absurd empty (List.append_ne_nil_of_right_ne_nil _ (List.cons_ne_nil _ _))),
      completions]
    show (if s.completions.records = [] then false else _) = _
    split
    next empty => exact (fresh empty).symm
    next => rfl
  · rw [head, takeCompletionsLevel_eq_levelSet, levelSet_levelSet]
    rfl

theorem post_posts (l rest : List CompletionRecord) {s : State} (backlog : s.table.backlog = l ++ rest)
    (room : s.completions.records.length + l.length ≤ 32) : Posts s (State.post l.length s) l rest := by
  induction l generalizing s with
  | nil =>
    rw [List.nil_append] at backlog
    rw [← backlog]
    exact .refl s
  | cons c l ih =>
    rw [List.length_cons] at room
    have head := postHead_posts backlog (by omega)
    refine Posts.cons backlog (by omega) (ih ?_ ?_)
    · rw [head]
      exact posted_backlog c (l ++ rest) s
    · have records : s.postHead.completions.records = s.completions.records ++ [⟨c, s.interval.tick⟩] := by
        rw [head]
        exact congrArg CompletionQueue.records (posted_completions c (l ++ rest) s)
      rw [records, List.length_append, List.length_singleton]
      omega

/-- The number of records that the Completion Queue has room for (R130). -/
def State.postable (s : State) : Nat := min s.table.backlog.length (32 - s.completions.records.length)

theorem postable_room (s : State) : s.postable = 0 ∨ s.completions.records.length + (s.table.backlog.take s.postable).length ≤ 32 := by
  unfold State.postable
  rw [List.length_take]
  omega

theorem length_take_postable (s : State) : (s.table.backlog.take s.postable).length = s.postable := by
  unfold State.postable
  rw [List.length_take]
  omega

theorem post_postable (s : State) :
    Posts s (State.post s.postable s) (s.table.backlog.take s.postable) (s.table.backlog.drop s.postable) := by
  rcases postable_room s with full | room
  · rw [full]
    exact .refl s
  · have posts := post_posts _ _ (List.take_append_drop s.postable _).symm room
    rw [length_take_postable] at posts
    exact posts

/-- Posting stops when the queue is full or the backlog is empty. -/
theorem post_backlog (s : State) : State.post s.table.backlog.length s = State.post s.postable s := by
  have posts := post_postable s
  have split_ : s.table.backlog.length = s.postable + (s.table.backlog.length - s.postable) := by
    unfold State.postable
    omega
  rw [split_, post_add, post_idle]
  rw [posts.backlog, posts.records, List.length_append, List.length_map, length_take_postable, List.drop_eq_nil_iff]
  unfold State.postable
  omega

/-! ## The entries of the records posted -/

/-- A record whose entry is PARKED when it is posted (R19, R130). -/
def CompletionRecord.Parks (c : CompletionRecord) : Prop := c.kind = .bulkFetch ∧ 0 < c.progress

/-- A segment freed with a record of a list (R19, R130). -/
def State.Freed (s : State) (l : List CompletionRecord) (g : SegId) : Prop :=
  ∃ c ∈ l, ¬ c.Parks ∧ ∃ o, s.table.find c.tag = some o ∧ g ∈ o.chain

/-- What posting the records of a list does to their entries and segments. -/
structure PostsEntries (s t : State) (l : List CompletionRecord) : Prop where
  other : ∀ tag : Byte, (∀ c ∈ l, c.tag ≠ tag) → t.table.find tag = s.table.find tag
  entry : ∀ c ∈ l, ∀ o : Order, s.table.find c.tag = some o →
    (c.Parks → t.table.find c.tag = some { o with state := .parked }) ∧ (¬ c.Parks → t.table.find c.tag = none)
  freed : ∀ g : SegId, s.Freed l g → t.pool.seg g = ⟨.free, none, 0⟩
  kept : ∀ g : SegId, ¬ s.Freed l g → t.pool.seg g = s.pool.seg g
  freeList : ∀ g : SegId, g ∈ t.pool.freeList ↔ g ∈ s.pool.freeList ∨ s.Freed l g

theorem PostsEntries.refl (s : State) : PostsEntries s s [] := by
  have none (g : SegId) : ¬ s.Freed [] g := fun ⟨c, mem, _⟩ => nomatch mem
  exact ⟨fun _ _ => rfl, fun c mem => (nomatch mem), fun g h => absurd h (none g), fun _ _ => rfl,
    fun g => (or_iff_left (none g)).symm⟩

theorem PostsEntries.one {s : State} {c : CompletionRecord} {rest : List CompletionRecord}
    (backlog : s.table.backlog = c :: rest) (room : s.completions.records.length < 32) : PostsEntries s s.postHead [c] := by
  have head := postHead_posts backlog room
  have table : s.postHead.table = (s.posted c rest).table := by rw [head]; rfl
  have pool : s.postHead.pool = (s.posted c rest).pool := by rw [head]; rfl
  have freed (g : SegId) : s.Freed [c] g ↔ ¬ c.Parks ∧ g ∈ s.table.chainOf c.tag := by
    unfold State.Freed OrderTable.chainOf
    cases found : s.table.find c.tag <;> simp [found]
  have single {tag : Byte} (absent : ∀ d ∈ [c], d.tag ≠ tag) : tag ≠ c.tag := fun e => absent c List.mem_cons_self e.symm
  refine ⟨fun tag absent => by rw [table]; exact posted_find_other (single absent), fun d mem o found => ?_, fun g free => ?_,
    fun g same => ?_, fun g => ?_⟩
  · cases List.mem_singleton.mp mem
    rw [table]
    refine ⟨fun parks => ?_, fun frees => ?_⟩
    · rw [posted_parks_table parks]
      exact OrderTable.find_update_same (f := fun o => { o with state := .parked }) (fun _ => rfl) found
    · rw [posted_frees_table frees]
      exact (OrderTable.find_release _ _ _).trans (if_pos rfl)
  · have ⟨frees, mem⟩ := (freed g).mp free
    rw [pool, posted_frees_pool frees, SegmentPool.freeAll_seg, if_pos mem]
  · rw [pool]
    by_cases parks : c.Parks
    · rw [posted_parks_pool parks]
    · rw [posted_frees_pool parks, SegmentPool.freeAll_seg, if_neg fun mem => same ((freed g).mpr ⟨parks, mem⟩)]
  · rw [pool, freed]
    by_cases parks : c.Parks
    · rw [posted_parks_pool parks]
      exact (or_iff_left fun h => h.1 parks).symm
    · rw [posted_frees_pool parks, SegmentPool.mem_freeList_freeAll, and_iff_right parks]

theorem PostsEntries.cons {s u t : State} {c : CompletionRecord} {l : List CompletionRecord} (first : PostsEntries s u [c])
    (later : PostsEntries u t l) (once : ∀ d ∈ l, d.tag ≠ c.tag) : PostsEntries s t (c :: l) := by
  have untouched {d : CompletionRecord} (mem : d ∈ l) : u.table.find d.tag = s.table.find d.tag :=
    first.other d.tag fun e he => by
      cases List.mem_singleton.mp he
      exact fun same => once d mem same.symm
  have freed (g : SegId) : s.Freed (c :: l) g ↔ s.Freed [c] g ∨ u.Freed l g := by
    constructor
    · rintro ⟨d, mem, frees, o, found, own⟩
      rcases List.mem_cons.mp mem with rfl | mem
      · exact .inl ⟨d, List.mem_singleton_self d, frees, o, found, own⟩
      · exact .inr ⟨d, mem, frees, o, (untouched mem).trans found, own⟩
    · rintro (⟨d, mem, frees, o, found, own⟩ | ⟨d, mem, frees, o, found, own⟩)
      · cases List.mem_singleton.mp mem
        exact ⟨c, List.mem_cons_self, frees, o, found, own⟩
      · exact ⟨d, List.mem_cons_of_mem _ mem, frees, o, (untouched mem).symm.trans found, own⟩
  refine ⟨fun tag absent => ?_, fun d mem o found => ?_, fun g free => ?_, fun g same => ?_, fun g => ?_⟩
  · exact (later.other tag fun d mem => absent d (List.mem_cons_of_mem _ mem)).trans
      (first.other tag fun d mem => absent d (List.mem_cons.mpr (.inl (List.mem_singleton.mp mem))))
  · rcases List.mem_cons.mp mem with rfl | mem
    · have ⟨parked, released⟩ := first.entry d (List.mem_singleton_self d) o found
      have kept : t.table.find d.tag = u.table.find d.tag := later.other d.tag once
      exact ⟨fun parks => kept.trans (parked parks), fun frees => kept.trans (released frees)⟩
    · exact later.entry d mem o ((untouched mem).trans found)
  · by_cases last : u.Freed l g
    · exact later.freed g last
    · rw [later.kept g last]
      exact first.freed g (((freed g).mp free).resolve_right last)
  · rw [later.kept g fun h => same ((freed g).mpr (.inr h)), first.kept g fun h => same ((freed g).mpr (.inl h))]
  · rw [later.freeList, first.freeList, freed, or_assoc]

theorem post_entries (l rest : List CompletionRecord) {s : State} (backlog : s.table.backlog = l ++ rest)
    (room : s.completions.records.length + l.length ≤ 32) (once : (l.map CompletionRecord.tag).Nodup) :
    PostsEntries s (State.post l.length s) l := by
  induction l generalizing s with
  | nil => exact .refl s
  | cons c l ih =>
    rw [List.length_cons] at room
    have ⟨fresh, tail⟩ := List.nodup_cons.mp once
    have one : Posts s s.postHead [c] (l ++ rest) := post_posts [c] (l ++ rest) backlog (by rw [List.length_singleton]; omega)
    refine (PostsEntries.one backlog (by omega)).cons (ih one.backlog ?_ tail) fun d mem same =>
      fresh (List.mem_map.mpr ⟨d, mem, same⟩)
    rw [one.records, List.length_append, List.length_map, List.length_singleton]
    omega

theorem post_postable_entries {s : State} (once : (s.table.backlog.map CompletionRecord.tag).Nodup) :
    PostsEntries s (State.post s.postable s) (s.table.backlog.take s.postable) := by
  rcases postable_room s with full | room
  · rw [full]
    exact .refl s
  · have entries := post_entries _ _ (List.take_append_drop s.postable _).symm room
      (once.sublist ((List.take_sublist _ _).map _))
    rw [length_take_postable] at entries
    exact entries

/-! ## TAKE_COMPLETIONS -/

/-- The state with the first records of the Completion Queue removed and the head tested (R132, R135). -/
def State.recordsTaken (r : Nat) (s : State) : State :=
  s.modCompletions fun q => ({ q with records := q.records.drop r }).testHead s.interval.tick

theorem takeEffect_eq (r : Nat) (s : State) : takeEffect r s =
    (State.post s.table.backlog.length (s.recordsTaken r)).takeCompletionsLevel := rfl

theorem encode_eq (c : CompletionRecord) : c.encode = [c.tag, byteOf c.node.val, c.kind.code, c.result.code, c.nakReason,
    byteOf c.progress, byteOf (c.progress / 256), byteOf c.retries, c.endStamp.setWidth 8, (c.endStamp >>> 8).setWidth 8,
    byteOf c.data.length] ++ c.data := by
  unfold CompletionRecord.encode
  rw [leNat_eq]
  rfl

theorem reqTakeCompletions_eq (p : List Byte) (s : State) : reqTakeCompletions p s =
    checked gateReady (decide (p.length = 1)) (decide (1 ≤ (byteAt p 0).toNat ∧ (byteAt p 0).toNat ≤ 7))
      (fun s => acceptWith (takePayload (s.completions.records.take (min (byteAt p 0).toNat s.completions.records.length))
        (takeEffect (min (byteAt p 0).toNat s.completions.records.length) s))
        (takeEffect (min (byteAt p 0).toNat s.completions.records.length) s)) s := rfl

/-- Settles O25: the records are taken, and as much of the backlog as fits is posted. -/
theorem takeCompletionsEffect : Obligations.TakeCompletionsEffect := by
  refine ⟨rfl, ?_, fun b s hs low high => ?_⟩
  · exact refusesBadForms_of (req := reqTakeCompletions) (l := fun p => decide (p.length = 1))
      (f := fun p => decide (1 ≤ (byteAt p 0).toNat ∧ (byteAt p 0).toNat ≤ 7)) (fun _ _ => rfl)
      (fun p s => ⟨_, reqTakeCompletions_eq p s⟩) (fun _ => decide_eq_true_iff) fun _ _ => decide_eq_true_iff
  intro r left k
  have taken : reqTakeCompletions [b] (s.taken 0x18 [b]) =
      acceptWith (takePayload (s.completions.records.take r) (takeEffect r (s.taken 0x18 [b])))
        (takeEffect r (s.taken 0x18 [b])) := by
    rw [reqTakeCompletions_eq]
    exact checked_pass rfl (decide_eq_true ⟨low, high⟩) (gateReady_taken hs _ _)
  have run := exec_accepted (mk := .takeCompletions) hs (by simp) rfl (by decide) taken
  obtain ⟨v, hv⟩ : ∃ v, v = (s.taken 0x18 [b]).recordsTaken r := ⟨_, rfl⟩
  obtain ⟨w, hw⟩ : ∃ w, w = State.post v.postable v := ⟨_, rfl⟩
  have records : v.completions.records = left := by rw [hv]; rfl
  have backlog : v.table = s.table := by rw [hv]; rfl
  have count : v.postable = k := by rw [State.postable, records, backlog]
  have effect : takeEffect r (s.taken 0x18 [b]) = w.takeCompletionsLevel := by
    rw [hw, hv, ← post_backlog]
    exact takeEffect_eq _ _
  have posts : Posts v w (s.table.backlog.take k) (s.table.backlog.drop k) := by
    have all := post_postable v
    rw [← hw, count, backlog] at all
    exact all
  have entries (inv : s.OrdersInv) : PostsEntries v w (s.table.backlog.take k) := by
    have all := post_postable_entries (s := v) (by rw [backlog]; exact inv.backlogOnce)
    rw [← hw, count, backlog] at all
    exact all
  have interval : v.interval = s.interval := by rw [hv]; rfl
  have aged : v.completions.headAged = CompletionQueue.agedAt s.interval.tick
      ⟨left, s.completions.watermark, s.completions.ageLimit, s.completions.headAged⟩ := by
    rw [hv]
    rfl
  have fresh (empty : v.completions.records = []) : v.completions.headAged = false := by
    rw [aged, ← records, empty]
    rfl
  have hostLine : w.hostLine = (s.taken 0x18 [b]).hostLine := by rw [posts.frame.frame, hv]; rfl
  have length : (s.completions.records.take r).length = r := by
    rw [List.length_take]
    exact Nat.min_eq_left (Nat.min_le_right _ _)
  have pool : v.pool = s.pool := by rw [hv]; rfl
  rw [effect] at run
  refine ⟨_, run, ?_, posts.backlog, ?_, ?_, ?_, ?_, ?_, ?_, ?_, fun inv => ?_, ?_⟩
  · show w.completions.records = _
    rw [posts.records, records, interval]
    rfl
  · show w.table.queues = _
    rw [posts.frame.queues, backlog]
  · show w.completions.watermark = _
    rw [posts.watermark, hv]
    rfl
  · show w.completions.ageLimit = _
    rw [posts.ageLimit, hv]
    rfl
  · exact (posts.headAged fresh).trans (aged.trans (CompletionQueue.agedAt_eq _ _ _ _ _))
  · refine (posts.level w.completions.level).trans (levelSet_notices_congr ?_ ?_ _ _)
    · rw [hv]
      rfl
    · rw [hv]
      rfl
  · have payload : takePayload (s.completions.records.take r) w.takeCompletionsLevel =
        [byteOf r, byteOf w.completions.records.length, byteOf w.table.backlog.length] ++
          (s.completions.records.take r).flatMap fun (q : Posted) => [q.record.tag, byteOf q.record.node.val, q.record.kind.code,
            q.record.result.code, q.record.nakReason, byteOf q.record.progress, byteOf (q.record.progress / 256),
            byteOf q.record.retries, q.record.endStamp.setWidth 8, (q.record.endStamp >>> 8).setWidth 8,
            byteOf q.record.data.length] ++ q.record.data := by
      simp only [takePayload, length, encode_eq]
      rfl
    rw [payload]
    show ({ w.hostLine with reply := _ } : HostLine) = _
    rw [hostLine]
    rfl
  · show w.pool.mem = _
    rw [posts.frame.mem, pool]
  · have after := entries inv
    have same (g : SegId) : v.Freed (s.table.backlog.take k) g ↔ s.Freed (s.table.backlog.take k) g := by
      unfold State.Freed
      rw [backlog]
    refine ⟨fun tag absent => ?_, fun c mem o found => ?_, fun g => ⟨fun freed => ?_, fun kept => ?_, ?_⟩⟩
    · exact (after.other tag absent).trans (congrArg (OrderTable.find · tag) backlog)
    · exact after.entry c mem o (by rw [backlog]; exact found)
    · exact after.freed g ((same g).mpr freed)
    · exact (after.kept g fun freed => kept ((same g).mp freed)).trans (congrArg (SegmentPool.seg · g) pool)
    · exact (after.freeList g).trans (or_congr (by rw [pool]) (same g))
  · show (w.takeCompletionsLevel).withReply _ _ _ _ = _
    rw [posts.frame.frame, hv]
    rfl

end Sys2Proof.Machine
end

section
/-! PROOFS. What the end of an exchange does to its order (R12 to R16, R39, R41, R42, R62, R63, R70). -/

namespace Sys2Proof.Machine

open Sys2Proof

/-! ## The entry with the retries added -/

/-- The state with the retries of an exchange added to those of its order (R12). -/
def State.retriesAdded (s : State) (tag : Byte) (x : Exchange) : State :=
  s.modTable (OrderTable.update tag (Order.addRetries x.retriesSent))

theorem retriesAdded_find {s : State} {tag : Byte} {o : Order} (x : Exchange) (found : s.table.find tag = some o) :
    (s.retriesAdded tag x).table.find tag = some (o.addRetries x.retriesSent) :=
  OrderTable.find_update_same (f := Order.addRetries x.retriesSent) (fun _ => rfl) found

section Outcome

variable {s : State} {x : Exchange} {tag : Byte} {o : Order}

theorem orderOutcome_ack (order : x.order = some tag) (found : s.table.find tag = some o) (payload : List Byte) :
    s.orderOutcome x (.ack payload) = (s.retriesAdded tag x).orderAck (o.addRetries x.retriesSent) payload := by
  have entry := retriesAdded_find x found
  unfold State.retriesAdded at entry ⊢
  unfold State.orderOutcome
  rw [order]
  dsimp only
  rw [entry]

theorem orderOutcome_nak (order : x.order = some tag) (found : s.table.find tag = some o) (reason : Byte) :
    s.orderOutcome x (.nak reason) =
      (s.retriesAdded tag x).endByMarkOr tag fun s => s.endOrder tag .nodeRejected reason := by
  have entry := retriesAdded_find x found
  unfold State.retriesAdded at entry ⊢
  unfold State.orderOutcome
  rw [order]
  dsimp only
  rw [entry]

theorem orderOutcome_failure (order : x.order = some tag) (found : s.table.find tag = some o) :
    s.orderOutcome x .failure = (s.retriesAdded tag x).endByMarkOr tag fun s => s.endOrder tag .noReply 0 := by
  have entry := retriesAdded_find x found
  unfold State.retriesAdded at entry ⊢
  unfold State.orderOutcome
  rw [order]
  dsimp only
  rw [entry]

theorem orderOutcome_busy (order : x.order = some tag) (found : s.table.find tag = some o) :
    s.orderOutcome x .busy = (s.retriesAdded tag x).endByMarkOr tag fun s =>
      if 8 ≤ x.busyCount + 1 then s.endOrder tag .nodeBusy 0
      else s.setHeld o.node (some ⟨tag, x.type, x.seqBit, x.resync, x.mode, x.attempts, x.busyCount + 1⟩) := by
  have entry := retriesAdded_find x found
  unfold State.retriesAdded at entry ⊢
  unfold State.orderOutcome
  rw [order]
  dsimp only
  rw [entry]
  rfl

theorem endByMarkOr_marked {m : Mark} (found : s.table.find tag = some o) (mark : o.mark = some m) (f : State → State) :
    s.endByMarkOr tag f = s.endOrder tag m.result 0 := by
  unfold State.endByMarkOr
  rw [found]
  dsimp only
  rw [mark]

theorem endByMarkOr_unmarked (found : s.table.find tag = some o) (mark : o.mark = none) (f : State → State) :
    s.endByMarkOr tag f = f s := by
  unfold State.endByMarkOr
  rw [found]
  dsimp only
  rw [mark]

end Outcome

/-! ## A GOOD ACK, by the kind of the order -/

section Ack

variable {s : State} {o : Order} {payload : List Byte}

theorem orderAck_pointRead (kind : o.kind = .pointRead) : s.orderAck o payload =
    (s.modTable (OrderTable.update o.tag fun o => { o with inlineData := payload, progress := o.length })).endOrder
      o.tag .done 0 := by
  unfold State.orderAck
  rw [kind]

theorem orderAck_pointWrite (kind : o.kind = .pointWrite) : s.orderAck o payload =
    (s.modTable (OrderTable.update o.tag fun o => { o with progress := o.length })).endOrder o.tag .done 0 := by
  unfold State.orderAck
  rw [kind]

theorem orderAck_nodeReset (kind : o.kind = .nodeReset) : s.orderAck o payload = s.endOrder o.tag .done 0 := by
  unfold State.orderAck
  rw [kind]

theorem orderAck_echo (kind : o.kind = .echoTest) : s.orderAck o payload =
    if mismatches (echoPattern (o.seed.getD 0) o.length) payload = 0 then
      (s.modTable (OrderTable.update o.tag fun o => { o with progress := o.length })).endOrder o.tag .done 0
    else (s.modTable (OrderTable.update o.tag fun q => { q with
      progress := mismatches (echoPattern (o.seed.getD 0) o.length) payload })).endOrder o.tag .echoMismatch 0 := by
  unfold State.orderAck
  rw [kind]

/-- The state after a block of a BULK_SEND has been acknowledged (R39). -/
def State.blockSent (s : State) (o : Order) (g : SegId) (rest : List SegId) : State :=
  (s.modPool (SegmentPool.freeSegment g)).modTable (OrderTable.update o.tag fun q => { q with
    progress := o.progress + (s.pool.seg g).fill, chain := rest })

theorem orderAck_send (kind : o.kind = .bulkSend) {g : SegId} {rest : List SegId} (chain : o.chain = g :: rest) :
    s.orderAck o payload = if o.length ≤ o.progress + (s.pool.seg g).fill then (s.blockSent o g rest).endOrder o.tag .done 0
      else (s.blockSent o g rest).endByMarkOr o.tag id := by
  unfold State.orderAck
  rw [kind]
  dsimp only
  rw [chain]
  rfl

theorem orderAck_fetch (kind : o.kind = .bulkFetch) : s.orderAck o payload =
    if o.length ≤ o.progress + payload.length ∨ payload.length < o.asked then
      (fetchPlaced o payload s).endOrder o.tag .done 0
    else (fetchPlaced o payload s).endByMarkOr o.tag id := by
  unfold State.orderAck
  rw [kind]
  rfl

end Ack

/-- The positions in which an echo differs from its pattern, by their numbers (R70). -/
theorem mismatches_eq {seed : Byte} {length : Nat} {payload : List Byte} (same : payload.length = length) :
    mismatches (echoPattern seed length) payload =
      ((List.range length).filter fun i => decide (payload[i]? ≠ some (seed + byteOf i))).length := by
  have listed : payload = (List.range length).map fun i => payload[i]?.getD 0 := by
    refine List.ext_getElem (by simp [same]) fun i hi _ => ?_
    simp [hi]
  have zipped : (echoPattern seed length).zip payload =
      (List.range length).map fun i => (seed + byteOf i, payload[i]?.getD 0) := by
    conv_lhs => rw [listed]
    exact List.zip_map'
  unfold mismatches
  rw [zipped, List.filter_map, List.length_map]
  refine congrArg List.length (List.filter_congr fun i hi => ?_)
  have within : i < payload.length := by
    rw [same]
    exact List.mem_range.mp hi
  show (seed + byteOf i != payload[i]?.getD 0) = _
  rw [List.getElem?_eq_getElem within, Option.getD_some]
  by_cases e : seed + byteOf i = payload[i]
  · simp [e]
  · simp [e, Ne.symm e]

/-! ## The segment memory at the end of an order -/

theorem endOrder_mem (tag : Byte) (r : Result) (nak : Byte) (s : State) : (s.endOrder tag r nak).pool.mem = s.pool.mem := by
  cases found : s.table.find tag with
  | none => rw [endOrder_missing found]
  | some o =>
    have closed : (s.closeOrder o r nak).pool = o.closeSegments s.pool := by rw [State.closeOrder_eq]
    rw [endOrder_found found, (PostFrame.postEnded _).mem, closed, closeSegments_mem]

theorem endByMarkOr_mem (tag : Byte) (s : State) : (s.endByMarkOr tag id).pool.mem = s.pool.mem := by
  cases found : s.table.find tag with
  | none => 
    unfold State.endByMarkOr
    rw [found]
  | some o =>
    cases mark : o.mark with
    | none => rw [endByMarkOr_unmarked found mark]; rfl
    | some m => rw [endByMarkOr_marked found mark, endOrder_mem]

theorem orderAck_fetch_mem {s : State} {o : Order} {payload : List Byte} (kind : o.kind = .bulkFetch) :
    (s.orderAck o payload).pool.mem = (fetchPlaced o payload s).pool.mem := by
  rw [orderAck_fetch kind]
  split
  · exact endOrder_mem _ _ _ _
  · exact endByMarkOr_mem _ _

/-- Settles O48: by the ending, and a GOOD ACK by the kind of the order. -/
theorem orderTakesOutcome : Obligations.OrderTakesOutcome := by
  intro x tag s o order found put v marked
  have own : o.tag = tag := (OrderTable.find_some found).2
  subst own
  have entry : v.table.find o.tag = some (o.addRetries x.retriesSent) := retriesAdded_find x found
  have marks {u w : State} {q : Order} {f : State → State} (here : u.table.find o.tag = some q) (mark : q.mark = o.mark)
      (goes : f u = w) : u.endByMarkOr o.tag f = marked u w := by
    show _ = (match o.mark with
      | some .cancel => u.endOrder o.tag .cancelled 0
      | some .expire => u.endOrder o.tag .expired 0
      | none => w)
    cases h : o.mark with
    | none => rw [endByMarkOr_unmarked here (mark.trans h), goes]
    | some m =>
      rw [endByMarkOr_marked here (mark.trans h)]
      cases m
      · rfl
      · rfl
  refine ⟨fun payload kind => ?_, fun payload kind => ?_, fun payload kind => ?_, fun payload kind same => ⟨fun exact_ => ?_, fun differs => ?_⟩,
    fun payload g rest kind chain => ?_, fun payload kind => ?_, fun reason => ?_, fun last => ?_, fun again => ?_, ?_⟩
  · exact (orderOutcome_ack order found payload).trans (orderAck_pointRead kind)
  · exact (orderOutcome_ack order found payload).trans (orderAck_pointWrite kind)
  · exact (orderOutcome_ack order found payload).trans (orderAck_nodeReset kind)
  · have ack := (orderOutcome_ack order found payload).trans (orderAck_echo kind)
    have count : mismatches (echoPattern (o.seed.getD 0) o.length) payload = 0 := (mismatches_eq same).trans exact_
    exact ack.trans (if_pos count)
  · have ack := (orderOutcome_ack order found payload).trans (orderAck_echo kind)
    have count : mismatches (echoPattern (o.seed.getD 0) o.length) payload ≠ 0 := by rw [mismatches_eq same]; exact differs
    refine ack.trans ((if_neg count).trans ?_)
    rw [show (o.addRetries x.retriesSent).seed = o.seed from rfl, show (o.addRetries x.retriesSent).length = o.length from rfl,
      mismatches_eq same]
    rfl
  · intro progress freed w
    have ⟨segs, mem⟩ := SegmentPool.freeSegment_segs g s.pool
    have ack : s.orderOutcome x (.ack payload) =
        if o.length ≤ progress then w.endOrder o.tag .done 0 else w.endByMarkOr o.tag id :=
      (orderOutcome_ack order found payload).trans (orderAck_send kind chain)
    have sent : w.table.find o.tag = some { o.addRetries x.retriesSent with progress := progress, chain := rest } :=
      OrderTable.find_update_same (f := fun o => { o with progress := progress, chain := rest }) (fun _ => rfl) entry
    exact ⟨segs, mem, fun whole => ack.trans (if_pos whole),
      fun more => ack.trans ((if_neg (Nat.not_le.mpr more)).trans (marks sent rfl rfl))⟩
  · intro progress asked landed handed w
    have placed : fetchPlaced (o.addRetries x.retriesSent) payload (s.retriesAdded o.tag x) = w := rfl
    have askedEq : (o.addRetries x.retriesSent).asked = asked := by
      rw [asked_eq]
      exact if_pos kind
    have ack : s.orderOutcome x (.ack payload) =
        if o.length ≤ progress ∨ payload.length < asked then w.endOrder o.tag .done 0 else w.endByMarkOr o.tag id := by
      rw [orderOutcome_ack order found payload]
      refine (orderAck_fetch (o := o.addRetries x.retriesSent) kind).trans ?_
      rw [askedEq, placed]
      rfl
    have landedEntry : w.table.find o.tag = some { o.addRetries x.retriesSent with progress := progress } := by
      rw [← placed, fetchPlaced_eq]
      exact OrderTable.find_update_same (f := fun o => { o with progress := progress }) (fun _ => rfl) entry
    refine ⟨fun g at_ block seg short wf => ?_, fun last => ack.trans (if_pos last),
      fun more => ack.trans ((if_neg more).trans (marks landedEntry rfl rfl))⟩
    have written := SegmentPool.writeData_segment .trunkSide o.tag o.chain g (o.progress / 256) at_ payload 0 0 s.pool
      (by omega) seg wf
    rw [show 256 * (o.progress / 256) + 0 = o.progress by omega, Nat.zero_add] at written
    obtain ⟨freeList, -, segs, bytes, others⟩ := written
    have hand : handed = if payload.length = 256 then landed.modPool (SegmentPool.setOwner .hostSide g) else landed := by
      show (match o.chain[o.progress / 256]? with
        | some g => if payload.length = 256 then landed.modPool (SegmentPool.setOwner .hostSide g) else landed
        | none => landed) = _
      rw [at_]
    have memEq : (s.orderOutcome x (.ack payload)).pool.mem = landed.pool.mem := by
      rw [orderOutcome_ack order found payload, orderAck_fetch_mem (o := o.addRetries x.retriesSent) kind, placed]
      show handed.pool.mem = _
      rw [hand]
      split
      · rfl
      · rfl
    intro mem
    refine ⟨fun i hi => ?_, fun a outside => ?_, fun h => ?_, ?_⟩
    · show some (Memory.read (s.orderOutcome x (.ack payload)).pool.mem _) = _
      rw [memEq]
      exact bytes i hi
    · show Memory.read (s.orderOutcome x (.ack payload)).pool.mem _ = _
      rw [memEq]
      exact others a outside
    · rw [hand]
      by_cases full : payload.length = 256
      · rw [if_pos full, if_pos full]
        show (SegmentPool.setOwner .hostSide g (s.pool.writeData .trunkSide o.tag o.chain o.progress payload)).seg h = _
        rw [SegmentPool.setOwner_seg, segs g, if_pos rfl]
        by_cases e : h = g
        · rw [if_pos ⟨e, nofun⟩, if_pos e]
        · rw [if_neg fun c => e c.1, if_neg e, segs h, if_neg e]
      · rw [if_neg full, if_neg full]
        exact segs h
    · rw [hand]
      split
      · exact freeList
      · exact freeList
  · exact (orderOutcome_nak order found reason).trans (marks entry rfl rfl)
  · exact (orderOutcome_busy order found).trans (marks entry rfl (if_pos last))
  · exact (orderOutcome_busy order found).trans (marks entry rfl (if_neg (Nat.not_le.mpr again)))
  · exact (orderOutcome_failure order found).trans (marks entry rfl rfl)

end Sys2Proof.Machine
end

section
/-! PROOFS. What a state operation does not read: the host line and the Node Table may be changed before or after it. -/

namespace Sys2Proof.Machine

open Sys2Proof

/-- The state with the host line, the node records and the nodes' schedules changed: the blocks that the end of an order neither
reads nor changes. -/
def State.aside (h : HostLine → HostLine) (r : Vector NodeRecord 24 → Vector NodeRecord 24)
    (g : Vector NodeSchedule 24 → Vector NodeSchedule 24) (s : State) : State :=
  { s with hostLine := h s.hostLine, nodes := r s.nodes, nodeScheds := g s.nodeScheds }

/-- An operation that commutes with a change of the state. -/
def Commutes (change op : State → State) : Prop := ∀ s, op (change s) = change (op s)

theorem Commutes.comp {change f g : State → State} (hf : Commutes change f) (hg : Commutes change g) :
    Commutes change fun s => g (f s) := fun s => by
  show g (f (change s)) = change (g (f s))
  rw [hf, hg]

theorem Commutes.forAll {α : Type} {change : State → State} {f : α → State → State} (h : ∀ a, Commutes change (f a)) (l : List α) :
    Commutes change (forAll f l) := fun s => by
  induction l generalizing s with
  | nil => rfl
  | cons a l ih =>
    show Machine.forAll f l (f a (change s)) = change (Machine.forAll f l (f a s))
    rw [h a, ih]

section Aside

variable (h : HostLine → HostLine) (r : Vector NodeRecord 24 → Vector NodeRecord 24)
  (g : Vector NodeSchedule 24 → Vector NodeSchedule 24)

theorem count_aside (t : TrunkId) (f : Counters → Counters) : Commutes (State.aside h r g) (State.count t f) := fun s =>
  (apply_ite (State.aside h r g) (s.trunks[t].state = .disabled) s (s.modMeter t fun m => { m with counts := f m.counts })).symm

theorem dropHeld_aside (o : Order) : Commutes (State.aside h r g) (State.dropHeld o) := fun s => by
  unfold State.dropHeld
  rw [show (s.aside h r g).held[o.node] = s.held[o.node] from rfl]
  cases s.held[o.node] with
  | none => rfl
  | some k => exact (apply_ite (State.aside h r g) (k.tag = o.tag) (s.setHeld o.node none) s).symm

theorem latch_aside (f : NoticeFlag) : Commutes (State.aside h r g) (State.latch f) := fun _ => rfl

theorem takeCompletionsLevel_aside : Commutes (State.aside h r g) State.takeCompletionsLevel := fun _ => rfl

theorem postHead_aside : Commutes (State.aside h r g) State.postHead := fun s => by
  cases backlog : s.table.backlog with
  | nil => rw [postHead_empty backlog, postHead_empty (s := s.aside h r g) backlog]
  | cons c rest =>
    by_cases room : s.completions.records.length < 32
    · rw [postHead_posts backlog room, postHead_posts (s := s.aside h r g) backlog room]
      rfl
    · rw [postHead_full (Nat.le_of_not_lt room), postHead_full (s := s.aside h r g) (Nat.le_of_not_lt room)]

theorem post_aside (n : Nat) : Commutes (State.aside h r g) (State.post n) := fun s => by
  induction n generalizing s with
  | zero => rfl
  | succ n ih =>
    show State.post n (s.aside h r g).postHead = (State.post n s.postHead).aside h r g
    rw [postHead_aside, ih]

theorem postEnded_aside : Commutes (State.aside h r g) State.postEnded := fun s => by
  have posted : State.post (s.aside h r g).table.backlog.length (s.aside h r g) =
    (State.post s.table.backlog.length s).aside h r g := post_aside h r g _ s
  unfold State.postEnded
  rw [posted]
  exact (apply_ite (State.aside h r g) ((State.post s.table.backlog.length s).table.backlog.isEmpty = true)
    (State.post s.table.backlog.length s) ((State.post s.table.backlog.length s).latch .backlog)).symm

theorem closeOrder_aside (o : Order) (res : Result) (nak : Byte) :
    Commutes (State.aside h r g) (State.closeOrder o res nak) := fun s => by
  unfold State.closeOrder
  rw [dropHeld_aside]
  exact count_aside h r g _ _ (((s.dropHeld o).modPool o.closeSegments).modTable
    (OrderTable.endEntry o res nak s.interval.tick (o.chainAtEnd s.pool)))

theorem endOrder_aside (tag : Byte) (res : Result) (nak : Byte) : Commutes (State.aside h r g) (State.endOrder tag res nak) :=
  fun s => by
  cases found : s.table.find tag with
  | none => rw [endOrder_missing found, endOrder_missing (s := s.aside h r g) found]
  | some o => rw [endOrder_found found, endOrder_found (s := s.aside h r g) found, closeOrder_aside, postEnded_aside]

theorem endIsolated_aside (tag : Byte) : Commutes (State.aside h r g) (State.endIsolated tag) := fun s => by
  unfold State.endIsolated
  rw [show (s.aside h r g).table = s.table from rfl]
  cases s.table.find tag with
  | none => rfl
  | some o =>
    rw [endOrder_aside h r g tag .nodeIsolated 0 s]
    exact (apply_ite (State.aside h r g) (o.state = .queued) (s.endOrder tag .nodeIsolated 0) s).symm

end Aside

/-! ## What the end of an order keeps -/

/-- A property that each operation on the order blocks keeps. -/
structure OrderStable (p : State → Prop) : Prop where
  table : ∀ f s, p s → p (s.modTable f)
  pool : ∀ f s, p s → p (s.modPool f)
  held : ∀ n k s, p s → p (s.setHeld n k)
  ended : ∀ tag res nak s, p s → p (s.endOrder tag res nak)

namespace OrderStable

variable {p : State → Prop} (stable : OrderStable p)

include stable

theorem endByMarkOr {tag : Byte} {f : State → State} (hf : ∀ s, p s → p (f s)) {s : State} (hs : p s) :
    p (s.endByMarkOr tag f) := by
  unfold State.endByMarkOr
  split
  · split
    · exact stable.ended _ _ _ _ hs
    · exact hf _ hs
  · exact hs

theorem fetchPlaced (o : Order) (payload : List Byte) {s : State} (hs : p s) : p (fetchPlaced o payload s) := by
  unfold Machine.fetchPlaced
  refine stable.table _ _ ?_
  have written := stable.pool (SegmentPool.writeData .trunkSide o.tag o.chain o.progress payload) s hs
  split
  · split
    · exact stable.pool _ _ written
    · exact written
  · exact written

theorem orderAck (o : Order) (payload : List Byte) {s : State} (hs : p s) : p (s.orderAck o payload) := by
  have ended {u : State} (tag : Byte) (res : Result) (hu : p u) : p (u.endOrder tag res 0) := stable.ended tag res 0 u hu
  cases kind : o.kind with
  | pointRead => rw [orderAck_pointRead kind]; exact ended _ _ (stable.table _ _ hs)
  | pointWrite => rw [orderAck_pointWrite kind]; exact ended _ _ (stable.table _ _ hs)
  | bulkSend =>
    cases chain : o.chain with
    | nil =>
      unfold State.orderAck
      rw [kind]
      dsimp only
      rw [chain]
      exact hs
    | cons k rest =>
      rw [orderAck_send kind chain]
      have sent : p (s.blockSent o k rest) := stable.table _ _ (stable.pool _ _ hs)
      split
      · exact ended _ _ sent
      · exact stable.endByMarkOr (fun _ h => h) sent
  | bulkFetch =>
    rw [orderAck_fetch kind]
    split
    · exact ended _ _ (stable.fetchPlaced o payload hs)
    · exact stable.endByMarkOr (fun _ h => h) (stable.fetchPlaced o payload hs)
  | echoTest =>
    rw [orderAck_echo kind]
    split
    · exact ended _ _ (stable.table _ _ hs)
    · exact ended _ _ (stable.table _ _ hs)
  | nodeReset => rw [orderAck_nodeReset kind]; exact ended _ _ hs

theorem orderOutcome (x : Exchange) (e : Ending) {s : State} (hs : p s) : p (s.orderOutcome x e) := by
  unfold State.orderOutcome
  split
  · exact hs
  next tag _ =>
    have added := stable.table (OrderTable.update tag (Order.addRetries x.retriesSent)) s hs
    dsimp only
    split
    · exact added
    · split
      · exact stable.orderAck _ _ added
      · exact stable.endByMarkOr (fun _ h => stable.ended _ _ _ _ h) added
      · refine stable.endByMarkOr (fun u h => ?_) added
        split
        · exact stable.ended _ _ _ _ h
        · exact stable.held _ _ _ h
      · exact stable.endByMarkOr (fun _ h => stable.ended _ _ _ _ h) added

theorem endIsolated (tag : Byte) {s : State} (hs : p s) : p (s.endIsolated tag) := by
  unfold State.endIsolated
  split
  · split
    · exact stable.ended _ _ _ _ hs
    · exact hs
  · exact hs

end OrderStable

end Sys2Proof.Machine
end

section
/-! PROOFS. The end of an exchange, block by block (R71, R72, R80, R94 to R98, R112, R138). -/

namespace Sys2Proof.Machine

open Sys2Proof

/-! ## The node and its schedule -/

/-- A node record after the end of an exchange (R94 to R98). -/
def NodeRecord.after (x : Exchange) (e : Ending) (now : Word) (limit : Nat) (r : NodeRecord) : NodeRecord :=
  match e with
  | .ack _ => { r with seqBit := !r.seqBit, lastExchange := now, consecutive := 0, state :=
      if r.state = .unseen ∨ r.state = .online then (if x.type = .resetNode then .unseen else .online) else r.state }
  | .nak _ => { r with seqBit := !r.seqBit, lastExchange := now, consecutive := 0, state :=
      if r.state = .unseen ∨ r.state = .online then .online else r.state }
  | .busy => { r with lastExchange := now, consecutive := 0, state :=
      if r.state = .unseen ∨ r.state = .online then .online else r.state }
  | .failure => if x.single then { r with lastExchange := now } else
      { r with lastExchange := now, consecutive := min 7 (r.consecutive + 1), total := min 65535 (r.total + 1), state :=
          if (r.state = .unseen ∨ r.state = .online) ∧ limit ≤ min 7 (r.consecutive + 1) then .isolated else r.state }

/-- A node's schedule after the end of an exchange (R80, R81). -/
def NodeSchedule.after (e : Ending) (now : Word) (g : NodeSchedule) : NodeSchedule :=
  if e = .busy then ⟨some (now + 3), true, false⟩ else { g with pollDue := false }

theorem good_eq (reset flips : Bool) (now : Word) (r : NodeRecord) : r.good reset flips now = { r with
    seqBit := if flips then !r.seqBit else r.seqBit, lastExchange := now, consecutive := 0
    state := if r.state = .unseen ∨ r.state = .online then (if reset then .unseen else .online) else r.state } := by
  unfold NodeRecord.good
  cases r.state <;> rfl

theorem good_ack (x : Exchange) (payload : List Byte) (now : Word) (limit : Nat) :
    NodeRecord.good (decide (x.type = .resetNode)) true now = NodeRecord.after x (.ack payload) now limit := by
  funext r
  rw [good_eq]
  simp only [decide_eq_true_iff]
  rfl

theorem good_nak (x : Exchange) (reason : Byte) (now : Word) (limit : Nat) :
    NodeRecord.good false true now = NodeRecord.after x (.nak reason) now limit := by
  funext r
  rw [good_eq]
  rfl

theorem good_busy (x : Exchange) (now : Word) (limit : Nat) :
    NodeRecord.good false false now = NodeRecord.after x .busy now limit := by
  funext r
  rw [good_eq]
  rfl

/-- The node is isolated by the end of an exchange (R96). -/
def State.isolates (s : State) (n : NodeId) (x : Exchange) (e : Ending) : Prop :=
  e = .failure ∧ x.single = false ∧ (s.nodes[n].state = .unseen ∨ s.nodes[n].state = .online) ∧
    s.trunks[trunkOf n].config.isolation ≤ min 7 (s.nodes[n].consecutive + 1)

/-- The state with the node and its schedule after the end of an exchange. -/
def State.nodeAfter (n : NodeId) (x : Exchange) (e : Ending) (a : State) : State :=
  a.aside id (fun v => upd v n (NodeRecord.after x e a.interval.tick a.trunks[trunkOf n].config.isolation))
    (fun v => upd v n (NodeSchedule.after e a.interval.tick))

theorem nodeAfter_of {a : State} {n : NodeId} {x : Exchange} {e : Ending} {r : NodeRecord → NodeRecord}
    {g : NodeSchedule → NodeSchedule}
    (node : r a.nodes[n] = a.nodes[n].after x e a.interval.tick a.trunks[trunkOf n].config.isolation)
    (sched : g a.nodeScheds[n] = a.nodeScheds[n].after e a.interval.tick) :
    (a.modNodeSched n g).modNode n r = a.nodeAfter n x e := by
  have nodes := upd_congr (v := a.nodes) (i := n) (f := r) (g := NodeRecord.after x e a.interval.tick _) node
  have scheds := upd_congr (v := a.nodeScheds) (i := n) (f := g) (g := NodeSchedule.after e a.interval.tick) sched
  unfold State.modNodeSched State.modNode State.nodeAfter State.aside
  rw [scheds, nodes]
  rfl

/-- The node record after a failure that is counted, before the isolation test (R95). -/
def NodeRecord.failed (now : Word) (r : NodeRecord) : NodeRecord :=
  { r with lastExchange := now, consecutive := min 7 (r.consecutive + 1), total := satAdd r.total 1 }

theorem nodeOutcome_failure {a : State} {n : NodeId} {x : Exchange} (counted : x.single = false) :
    a.nodeOutcome n x .failure = State.isolationTest n
      ((a.modNodeSched n NodeSchedule.reached).modNode n (NodeRecord.failed a.interval.tick)) := by
  unfold State.nodeOutcome
  exact if_neg (by rw [counted]; exact Bool.false_ne_true)

theorem nodeOutcome_single {a : State} {n : NodeId} {x : Exchange} (single : x.single = true) :
    a.nodeOutcome n x .failure =
      (a.modNodeSched n NodeSchedule.reached).modNode n fun r => { r with lastExchange := a.interval.tick } := by
  unfold State.nodeOutcome
  exact if_pos single

theorem isolationTest_fails {a : State} {n : NodeId}
    (h : ¬ (a.trunks[trunkOf n].config.isolation ≤ a.nodes[n].consecutive ∧
      (a.nodes[n].state = .unseen ∨ a.nodes[n].state = .online))) : a.isolationTest n = a := if_neg h

/-- The isolation of a node (R96). -/
def State.isolated (n : NodeId) (a : State) : State :=
  ((forAll State.endIsolated (a.table.queue n) a).latch .nodeIsolated).count (trunkOf n) fun c =>
    { c with isolations := satAdd c.isolations 1 }

theorem isolationTest_isolates {a : State} {n : NodeId} (h : a.trunks[trunkOf n].config.isolation ≤ a.nodes[n].consecutive ∧
      (a.nodes[n].state = .unseen ∨ a.nodes[n].state = .online)) :
    a.isolationTest n = (a.modNode n fun r => { r with state := .isolated }).isolated n := if_pos h

theorem isolated_aside (h : HostLine → HostLine) (r : Vector NodeRecord 24 → Vector NodeRecord 24)
    (g : Vector NodeSchedule 24 → Vector NodeSchedule 24) (n : NodeId) : Commutes (State.aside h r g) (State.isolated n) :=
  fun s => by
  have ended : forAll State.endIsolated ((s.aside h r g).table.queue n) (s.aside h r g) =
      (forAll State.endIsolated (s.table.queue n) s).aside h r g := Commutes.forAll (endIsolated_aside h r g) _ s
  unfold State.isolated
  rw [ended, latch_aside, count_aside]

theorem failed_after {x : Exchange} (counted : x.single = false) (now : Word) (limit : Nat)
    (r : NodeRecord) : r.after x .failure now limit = { r.failed now with
      state := if (r.state = .unseen ∨ r.state = .online) ∧ limit ≤ min 7 (r.consecutive + 1) then .isolated else r.state } :=
  if_neg (by rw [counted]; exact Bool.false_ne_true)

/-- The outcome at the node when it is not isolated. -/
theorem outcome_stays {a : State} {n : NodeId} {x : Exchange} {e : Ending} (stays : ¬ a.isolates n x e) :
    (a.nodeOutcome n x e).schedulerOutcome n e = a.nodeAfter n x e := by
  cases e with
  | ack payload => exact nodeAfter_of (congrFun (good_ack x payload _ _) _) rfl
  | nak reason => exact nodeAfter_of (congrFun (good_nak x reason _ _) _) rfl
  | busy =>
    refine Eq.trans ?_ (nodeAfter_of (a := a) (g := NodeSchedule.after .busy a.interval.tick)
      (congrFun (good_busy x a.interval.tick _) _) rfl)
    exact congrArg (fun v => ({ a.modNode n (NodeRecord.good false false a.interval.tick) with nodeScheds := v } : State))
      (upd_upd a.nodeScheds n NodeSchedule.reached _)
  | failure =>
    cases single : x.single with
    | true => exact (nodeOutcome_single single).trans (nodeAfter_of (if_pos single).symm rfl)
    | false =>
      have below : ¬ ((a.nodes[n].state = .unseen ∨ a.nodes[n].state = .online) ∧
          a.trunks[trunkOf n].config.isolation ≤ min 7 (a.nodes[n].consecutive + 1)) := fun h => stays ⟨rfl, single, h⟩
      refine (nodeOutcome_failure single).trans ((isolationTest_fails ?_).trans (nodeAfter_of ?_ rfl))
      · show ¬ (a.trunks[trunkOf n].config.isolation ≤ (upd a.nodes n _)[n].consecutive ∧
          ((upd a.nodes n _)[n].state = .unseen ∨ (upd a.nodes n _)[n].state = .online))
        rw [upd_same]
        exact fun h => below h.symm
      · rw [failed_after single, if_neg below]
        rfl

/-- The outcome at the node that is isolated. -/
theorem outcome_isolates {a : State} {n : NodeId} {x : Exchange} {e : Ending} (iso : a.isolates n x e) :
    (a.nodeOutcome n x e).schedulerOutcome n e = (a.nodeAfter n x e).isolated n := by
  obtain ⟨rfl, single, reached⟩ := iso
  refine (nodeOutcome_failure single).trans ((isolationTest_isolates ?_).trans (congrArg (State.isolated n) ?_))
  · show a.trunks[trunkOf n].config.isolation ≤ (upd a.nodes n _)[n].consecutive ∧
      ((upd a.nodes n _)[n].state = .unseen ∨ (upd a.nodes n _)[n].state = .online)
    rw [upd_same]
    exact reached.symm
  · refine Eq.trans ?_ (nodeAfter_of (a := a) (g := NodeSchedule.after .failure a.interval.tick)
      (r := fun r => { r.failed a.interval.tick with state := .isolated }) ?_ rfl)
    · exact congrArg (fun v => ({ a.modNodeSched n NodeSchedule.reached with nodes := v } : State)) (upd_upd a.nodes n _ _)
    · rw [failed_after single, if_pos reached]

/-! ## What the orders of an exchange keep -/

/-- Interval counters without those that count the ends of orders. -/
def Counters.exchanges (c : Counters) : Counters := { c with ordersDone := 0, ordersOther := 0 }

/-- The end of orders leaves the NODE_ISOLATED flag and the counters of exchanges. -/
def State.KeepsExchanges (s u : State) : Prop :=
  u.notices.flags.getLsbD 2 = s.notices.flags.getLsbD 2 ∧
    ∀ m : TrunkId, u.meters[m].counts.exchanges = s.meters[m].counts.exchanges

theorem keepsExchanges_stable (s : State) : OrderStable s.KeepsExchanges := by
  refine ⟨fun _ _ h => h, fun _ _ h => h, fun _ _ _ h => h, fun tag res nak u h => ?_⟩
  refine endOrder_inv (fun v hv => ?_) (fun v hv => ?_) h fun o _ => ?_
  · rcases v.postHead_eq with same | ⟨c, rest, -, -, posts⟩
    · rw [same]
      exact hv
    · rw [posts]
      refine ⟨?_, hv.2⟩
      refine Eq.trans ?_ hv.1
      exact (NoticeUnit.put_bit .completions _ v.notices 2 (by decide)).trans (if_neg (by decide))
  · refine ⟨?_, hv.2⟩
    refine Eq.trans ?_ hv.1
    show (v.notices.flags ||| NoticeFlag.backlog.mask).getLsbD 2 = _
    rw [BitVec.getLsbD_or]
    exact Bool.or_false _
  · have notices : (u.closeOrder o res nak).notices = u.notices := by rw [State.closeOrder_eq]
    refine ⟨by rw [notices]; exact h.1, fun m => ?_⟩
    rw [closeOrder_meters]
    split
    · exact h.2 m
    · refine Eq.trans ?_ (h.2 m)
      rw [upd_get]
      split
      next same =>
        rw [same]
        cases res <;> rfl
      next => rfl

/-! ## The outcome at the orders and the node -/

theorem count_meters (t m : TrunkId) (f : Counters → Counters) (s : State) : (s.count t f).meters[m] =
    if m = t ∧ s.trunks[m].state ≠ .disabled then { s.meters[m] with counts := f s.meters[m].counts } else s.meters[m] := by
  unfold State.count
  by_cases off : s.trunks[t].state = .disabled
  · rw [if_pos off, if_neg]
    rintro ⟨rfl, on⟩
    exact on off
  · rw [if_neg off]
    refine (upd_get s.meters t m _).trans ?_
    by_cases same : m = t
    · subst same
      rw [if_pos rfl, if_pos ⟨rfl, off⟩]
    · rw [if_neg same, if_neg fun h => same h.1]

theorem isolates_congr {s a : State} {n : NodeId} {x : Exchange} {e : Ending} (nodes : a.nodes = s.nodes)
    (trunks : a.trunks = s.trunks) : a.isolates n x e ↔ s.isolates n x e := by
  unfold State.isolates
  rw [nodes, trunks]

/-- What the outcome of an exchange does at its node, `a` being the state with the outcome at its order and `w` that with the
isolated node's orders ended besides (R80, R94 to R98). -/
structure State.NodeOutcome (a : State) (n : NodeId) (x : Exchange) (e : Ending) (w y : State) : Prop where
  stays : ¬ a.isolates n x e → w = a
  ends : a.isolates n x e → w = (a.table.queue n).foldl (fun v tag => v.endIsolated tag) a
  orders : OrderFrame a w
  kept : a.KeepsExchanges w
  nodes : y.nodes = upd a.nodes n (NodeRecord.after x e a.interval.tick a.trunks[trunkOf n].config.isolation)
  nodeScheds : y.nodeScheds = upd a.nodeScheds n (NodeSchedule.after e a.interval.tick)
  isolations : ∀ m : TrunkId, a.isolates n x e ∧ m = trunkOf n ∧ a.trunks[m].state ≠ .disabled → y.meters[m] =
    { w.meters[m] with counts := { w.meters[m].counts with isolations := min 65535 (w.meters[m].counts.isolations + 1) } }
  meters : ∀ m : TrunkId, ¬ (a.isolates n x e ∧ m = trunkOf n ∧ a.trunks[m].state ≠ .disabled) → y.meters[m] = w.meters[m]
  latched : a.isolates n x e → y.notices = (w.flagged 0x0004).notices
  silent : ¬ a.isolates n x e → y.notices = w.notices
  frame : y = { w with nodes := y.nodes, nodeScheds := y.nodeScheds, meters := y.meters, notices := y.notices }

theorem nodeOutcome_stays {a : State} {n : NodeId} {x : Exchange} {e : Ending} (iso : ¬ a.isolates n x e) :
    a.NodeOutcome n x e a ((a.nodeOutcome n x e).schedulerOutcome n e) := by
  rw [outcome_stays iso]
  exact ⟨fun _ => rfl, fun h => absurd h iso, .refl a, ⟨rfl, fun _ => rfl⟩, rfl, rfl, fun m h => absurd h.1 iso, fun m _ => rfl,
    fun h => absurd h iso, fun _ => rfl, rfl⟩

theorem nodeOutcome_isolates {a : State} {n : NodeId} {x : Exchange} {e : Ending} (iso : a.isolates n x e) :
    a.NodeOutcome n x e (forAll State.endIsolated (a.table.queue n) a) ((a.nodeOutcome n x e).schedulerOutcome n e) := by
  have orders : OrderFrame a (forAll State.endIsolated (a.table.queue n) a) := .forAll _ (fun tag s => .endIsolated tag s) _ _
  have kept : a.KeepsExchanges (forAll State.endIsolated (a.table.queue n) a) :=
    forAll_inv State.endIsolated (fun tag _ h => (keepsExchanges_stable a).endIsolated tag h) _ a ⟨rfl, fun _ => rfl⟩
  rw [outcome_isolates iso, State.nodeAfter, isolated_aside, State.isolated]
  obtain ⟨w, hw⟩ : ∃ w, w = forAll State.endIsolated (a.table.queue n) a := ⟨_, rfl⟩
  rw [← hw] at orders kept ⊢
  obtain ⟨u, hu⟩ : ∃ u, u = (w.latch .nodeIsolated).count (trunkOf n) fun c => { c with isolations := satAdd c.isolations 1 } :=
    ⟨_, rfl⟩
  have counting : u = { w.latch .nodeIsolated with meters := u.meters } := by rw [hu]; exact State.count_eq _ _ _
  have meters (m : TrunkId) : u.meters[m] =
      if m = trunkOf n ∧ a.trunks[m].state ≠ .disabled then { w.meters[m] with counts :=
        { w.meters[m].counts with isolations := min 65535 (w.meters[m].counts.isolations + 1) } } else w.meters[m] := by
    rw [hu, count_meters, ← orders.trunks]
    rfl
  have nodes : u.nodes = a.nodes := by rw [counting]; exact orders.nodes
  have nodeScheds : u.nodeScheds = a.nodeScheds := by rw [counting]; exact orders.nodeScheds
  rw [← hu]
  refine ⟨fun h => absurd iso h, fun _ => hw, orders, kept, congrArg (upd · n _) nodes, congrArg (upd · n _) nodeScheds,
    fun m h => (meters m).trans (if_pos h.2), fun m h => (meters m).trans (if_neg fun c => h ⟨iso, c⟩), fun _ => ?_,
    fun h => absurd iso h, ?_⟩
  · show u.notices = _
    rw [counting]
    rfl
  · show u.aside _ _ _ = _
    rw [counting]
    rfl

theorem nodeOutcome_exists (a : State) (n : NodeId) (x : Exchange) (e : Ending) :
    ∃ w, a.NodeOutcome n x e w ((a.nodeOutcome n x e).schedulerOutcome n e) := by
  by_cases iso : a.isolates n x e
  · exact ⟨_, nodeOutcome_isolates iso⟩
  · exact ⟨_, nodeOutcome_stays iso⟩

end Sys2Proof.Machine
end

section
/-! PROOFS. The end of an exchange as one event (R71, R72, R112, R138). -/

namespace Sys2Proof.Machine

open Sys2Proof

/-! ## The counts and the engine -/

/-- The state with the counts of an exchange handed on and its engine in GUARD (R72, R59). -/
def State.exchangeCounted (t : TrunkId) (x : Exchange) (e : Ending) (s : State) : State :=
  (s.count t (Counters.exchangeEnd x e (s.bytesMoved x e))).modEngine t (Engine.exchangeEnded e.isAck)

theorem exchangeEnd_counts (x : Exchange) (e : Ending) (moved : Nat) (c : Counters) : c.exchangeEnd x e moved = { c with
    started := min 65535 (c.started + 1), good := min 65535 (c.good + if e = .failure then 0 else 1)
    noStart := min 65535 (c.noStart + x.noStart), broken := min 65535 (c.broken + x.broken)
    stray := min 65535 (c.stray + x.stray), busy := min 65535 (c.busy + if e = .busy then 1 else 0)
    retries := min 65535 (c.retries + x.retriesSent), bytesMoved := min 16777215 (c.bytesMoved + moved) } := by
  cases e <;> rfl

theorem exchangeEnded_eq (e : Ending) (g : Engine) : g.exchangeEnded e.isAck = { g with
    phase := .guard, exch := none, rx := [], rxFault := false, guardTimes := 2
    grant := g.grant.map fun r => { r with ackEnded := match e with | .ack _ => true | _ => false } } := by
  cases e <;> rfl

theorem exchangeCounted_frame (t : TrunkId) (x : Exchange) (e : Ending) (s : State) : s.exchangeCounted t x e =
    { s with engines := (s.exchangeCounted t x e).engines, meters := (s.exchangeCounted t x e).meters } := by
  unfold State.exchangeCounted
  rw [State.count_eq]
  rfl

theorem exchangeCounted_engines (t m : TrunkId) (x : Exchange) (e : Ending) (s : State) :
    (s.exchangeCounted t x e).engines[m] = if m = t then s.engines[t].exchangeEnded e.isAck else s.engines[m] := by
  unfold State.exchangeCounted
  rw [State.count_eq]
  refine (upd_get s.engines t m _).trans ?_
  split
  next same => rw [same]
  next => rfl

theorem exchangeCounted_meters (t m : TrunkId) (x : Exchange) (e : Ending) (s : State) :
    (s.exchangeCounted t x e).meters[m] = if m = t ∧ s.trunks[t].state ≠ .disabled then
      { s.meters[t] with counts := s.meters[t].counts.exchangeEnd x e (s.bytesMoved x e) } else s.meters[m] := by
  refine (count_meters t m _ s).trans ?_
  by_cases same : m = t
  · rw [same]
  · rw [if_neg fun h => same h.1, if_neg fun h => same h.1]

/-! ## The bytes moved -/

theorem bytesMoved_none {s : State} {x : Exchange} {e : Ending} (h : (∀ p, e ≠ .ack p) ∨ x.order = none) :
    s.bytesMoved x e = 0 := by
  unfold State.bytesMoved
  split
  next p tag order =>
    rcases h with other | none
    · exact absurd rfl (other p)
    · cases none.symm.trans order
  next => rfl

section Moved

variable {s : State} {x : Exchange} {tag : Byte} {o : Order} (p : List Byte) (order : x.order = some tag)
  (found : s.table.find tag = some o)

include order found

theorem bytesMoved_length (kind : o.kind = .pointRead ∨ o.kind = .pointWrite ∨ o.kind = .echoTest) :
    s.bytesMoved x (.ack p) = o.length := by
  unfold State.bytesMoved
  rw [order]
  dsimp only
  rw [found]
  rcases kind with kind | kind | kind
  · simp only [kind]
  · simp only [kind]
  · simp only [kind]

theorem bytesMoved_fetch (kind : o.kind = .bulkFetch) : s.bytesMoved x (.ack p) = p.length := by
  unfold State.bytesMoved
  rw [order]
  dsimp only
  rw [found]
  simp only [kind]

theorem bytesMoved_send (kind : o.kind = .bulkSend) {g : SegId} {rest : List SegId} (chain : o.chain = g :: rest) :
    s.bytesMoved x (.ack p) = (s.pool.seg g).fill := by
  unfold State.bytesMoved
  rw [order]
  dsimp only
  rw [found]
  simp only [kind, chain]

theorem bytesMoved_reset (kind : o.kind = .nodeReset) : s.bytesMoved x (.ack p) = 0 := by
  unfold State.bytesMoved
  rw [order]
  dsimp only
  rw [found]
  simp only [kind]

end Moved

/-! ## The Attention List -/

theorem takeAttention_new {n : NodeId} {l : List AttentionEntry} (absent : ∀ a ∈ l, a.node ≠ n) (code : Byte) :
    takeAttention n code l = l ++ [⟨n, code, 0, false, false⟩] :=
  if_neg fun h => by
    obtain ⟨a, mem, same⟩ := List.any_eq_true.mp h
    exact absent a mem (of_decide_eq_true same)

theorem takeAttention_renewed {n : NodeId} {l : List AttentionEntry} (present : ∃ a ∈ l, a.node = n) (code : Byte) :
    takeAttention n code l = l.map fun (a : AttentionEntry) =>
      if a.node = n then ⟨n, code, min 255 (a.repeats + 1), a.seen, a.seen || a.renewed⟩ else a := by
  obtain ⟨a, mem, same⟩ := present
  refine (if_pos (List.any_eq_true.mpr ⟨a, mem, decide_eq_true same⟩)).trans (List.map_congr_left fun b _ => ?_)
  by_cases own : b.node = n
  · rw [if_pos own, if_pos own, ← own]
    rfl
  · rw [if_neg own, if_neg own]

theorem endIsolated_queued {s : State} {tag : Byte} {o : Order} (found : s.table.find tag = some o) (queued : o.state = .queued) :
    s.endIsolated tag = s.endOrder tag .nodeIsolated 0 := by
  unfold State.endIsolated
  rw [found]
  exact if_pos queued

theorem endIsolated_other {s : State} {tag : Byte} {o : Order} (found : s.table.find tag = some o) (other : o.state ≠ .queued) :
    s.endIsolated tag = s := by
  unfold State.endIsolated
  rw [found]
  exact if_neg other

theorem endIsolated_missing {s : State} {tag : Byte} (missing : s.table.find tag = none) : s.endIsolated tag = s := by
  unfold State.endIsolated
  rw [missing]

/-! ## The exchange ended -/

/-- The outcome at the order of an exchange, after its counts. -/
def State.orderTaken (t : TrunkId) (x : Exchange) (e : Ending) (s : State) : State :=
  (s.exchangeCounted t x e).orderOutcome x e

theorem nodeTaken_eq (t : TrunkId) (n : NodeId) (x : Exchange) (e : Ending) (s : State) :
    s.nodeTaken t n x e = ((s.orderTaken t x e).nodeOutcome n x e).schedulerOutcome n e := rfl

theorem orderTaken_frame (t : TrunkId) (x : Exchange) (e : Ending) (s : State) :
    OrderFrame (s.exchangeCounted t x e) (s.orderTaken t x e) := .orderOutcome x e _

theorem takeOutcome_trunk (t : TrunkId) (n : NodeId) (x : Exchange) (e : Ending) (code : Byte) (s : State) (m : TrunkId) :
    (s.takeOutcome t n x e code).trunks[m] = if code ≠ 0 ∧ m = trunkOf n ∧ s.trunks[m].state = .quiet then
      { s.trunks[m] with state := .active, wait := .none, idleCount := 0 } else s.trunks[m] := by
  rw [State.takeOutcome_trunks]
  by_cases none : code = 0
  · rw [if_pos none, if_neg fun h => h.1 none]
  · rw [if_neg none, State.wake_get]
    by_cases own : m = trunkOf n
    · subst own
      by_cases quiet : s.trunks[trunkOf n].state = .quiet
      · rw [if_pos ⟨rfl, quiet⟩, if_pos ⟨none, rfl, quiet⟩]
      · rw [if_neg fun h => quiet h.2, if_neg fun h => quiet h.2.2]
    · rw [if_neg fun h => own h.1, if_neg fun h => own h.2.1]

theorem takeOutcome_stopping (t : TrunkId) (n : NodeId) (x : Exchange) (e : Ending) (code : Byte) (s : State) :
    (s.takeOutcome t n x e code).trunks[t].state = .stopping ↔ s.trunks[t].state = .stopping := by
  rw [takeOutcome_trunk]
  split
  next woken =>
    rw [woken.2.2]
    exact ⟨nofun, nofun⟩
  next => rfl

theorem exchangeEnd_goesOn {t : TrunkId} {s : State} (goesOn : s.trunks[t].state ≠ .stopping) (n : NodeId) (x : Exchange)
    (e : Ending) (code : Byte) : s.exchangeEnd t n x e code = s.takeOutcome t n x e code := by
  rw [State.exchangeEnd_eq, if_neg (mt (takeOutcome_stopping t n x e code s).mp goesOn)]

theorem exchangeEnd_stops {t : TrunkId} {s : State} (stops : s.trunks[t].state = .stopping) (n : NodeId) (x : Exchange)
    (e : Ending) (code : Byte) : s.exchangeEnd t n x e code = (s.takeOutcome t n x e code).enterDisabled t := by
  rw [State.exchangeEnd_eq, if_pos ((takeOutcome_stopping t n x e code s).mpr stops)]

theorem after_pollDue (e : Ending) (now : Word) (g : NodeSchedule) : (g.after e now).pollDue = false := by
  unfold NodeSchedule.after
  split
  · rfl
  · rfl

theorem attention_bit (b : Bool) (s : State) : (s.levelSet 0x0002 b).notices.flags.getLsbD 2 = s.notices.flags.getLsbD 2 :=
  (NoticeUnit.put_bit .attention b s.notices 2 (by decide)).trans (if_neg (by decide))

theorem enterDisabled_nodes (t : TrunkId) (s : State) : (s.enterDisabled t).nodes = s.nodes := by rw [State.enterDisabled_eq]

theorem enterDisabled_attention (t : TrunkId) (s : State) : (s.enterDisabled t).attention = s.attention := by
  rw [State.enterDisabled_eq]

theorem enterDisabled_pollDue (t : TrunkId) (s : State) (n : NodeId) :
    (s.enterDisabled t).nodeScheds[n].pollDue = s.nodeScheds[n].pollDue := by
  rw [State.enterDisabled_eq]
  show ((trunkNodes t).foldl (fun v j => upd v j NodeSchedule.cleared) s.nodeScheds)[n].pollDue = _
  rw [trunkNodes_upd_get]
  split
  · rfl
  · rfl

theorem enterDisabled_stopped (t : TrunkId) (s : State) : (s.enterDisabled t).trunks[t].state = .disabled ∧
    (s.enterDisabled t).supplies[t].power = false ∧ (s.enterDisabled t).engines[t] = ⟨.idle, none, none, [], false, 0⟩ := by
  rw [State.enterDisabled_eq]
  refine ⟨?_, ?_, upd_same s.engines t _⟩
  · exact congrArg TrunkControl.state (upd_same s.trunks t _)
  · exact congrArg SupplyMonitor.power (upd_same s.supplies t _)

theorem enterDisabled_trunk_other {t m : TrunkId} (other : m ≠ t) (s : State) : (s.enterDisabled t).trunks[m] = s.trunks[m] := by
  rw [State.enterDisabled_eq]
  exact upd_other s.trunks t m _ other

/-- What the end of an exchange hands on, with the state `z` before the entry to DISABLED (R71). -/
structure State.ExchangeEnded (s : State) (t : TrunkId) (n : NodeId) (x : Exchange) (e : Ending) (code : Byte) (w z : State) :
    Prop where
  stays : ¬ s.isolates n x e → w = (s.exchangeCounted t x e).orderOutcome x e
  ends : s.isolates n x e → w = (((s.exchangeCounted t x e).orderOutcome x e).table.queue n).foldl
    (fun v tag => v.endIsolated tag) ((s.exchangeCounted t x e).orderOutcome x e)
  orders : OrderFrame (s.exchangeCounted t x e) w
  kept : (s.exchangeCounted t x e).KeepsExchanges w
  nodes : z.nodes = upd s.nodes n (NodeRecord.after x e s.interval.tick s.trunks[trunkOf n].config.isolation)
  nodeScheds : z.nodeScheds = upd s.nodeScheds n (NodeSchedule.after e s.interval.tick)
  isolations : ∀ m : TrunkId, s.isolates n x e ∧ m = trunkOf n ∧ s.trunks[m].state ≠ .disabled → z.meters[m] =
    { w.meters[m] with counts := { w.meters[m].counts with isolations := min 65535 (w.meters[m].counts.isolations + 1) } }
  meters : ∀ m : TrunkId, ¬ (s.isolates n x e ∧ m = trunkOf n ∧ s.trunks[m].state ≠ .disabled) → z.meters[m] = w.meters[m]
  attention : z.attention = if code = 0 then s.attention else takeAttention n code s.attention
  latched : s.isolates n x e → z.notices = (if code = 0 then w.flagged 0x0004
    else (w.flagged 0x0004).levelSet 0x0002 (z.attention.any fun a => !a.seen)).notices
  silent : ¬ s.isolates n x e → z.notices = (if code = 0 then w
    else w.levelSet 0x0002 (z.attention.any fun a => !a.seen)).notices
  frame : z = { w with nodes := z.nodes, nodeScheds := z.nodeScheds, trunks := z.trunks, meters := z.meters
                       attention := z.attention, notices := z.notices }

theorem exchangeEnded_exists (t : TrunkId) (n : NodeId) (x : Exchange) (e : Ending) (code : Byte) (s : State) :
    ∃ w, s.ExchangeEnded t n x e code w (s.takeOutcome t n x e code) := by
  obtain ⟨a, ha⟩ : ∃ a, a = s.orderTaken t x e := ⟨_, rfl⟩
  obtain ⟨y, hy⟩ : ∃ y, y = s.nodeTaken t n x e := ⟨_, rfl⟩
  obtain ⟨w, node⟩ : ∃ w, a.NodeOutcome n x e w y := by
    rw [hy, ha, nodeTaken_eq]
    exact nodeOutcome_exists _ n x e
  have counted := exchangeCounted_frame t x e s
  have orders : OrderFrame (s.exchangeCounted t x e) a := ha ▸ orderTaken_frame t x e s
  have kept : (s.exchangeCounted t x e).KeepsExchanges a :=
    ha ▸ (keepsExchanges_stable _).orderOutcome x e ⟨rfl, fun _ => rfl⟩
  have nodes : a.nodes = s.nodes := orders.nodes.trans (by rw [counted])
  have nodeScheds : a.nodeScheds = s.nodeScheds := orders.nodeScheds.trans (by rw [counted])
  have trunks : a.trunks = s.trunks := orders.trunks.trans (by rw [counted])
  have interval : a.interval = s.interval := orders.interval.trans (by rw [counted])
  have attention : y.attention = s.attention := by
    rw [node.frame]
    exact node.orders.attention.trans (orders.attention.trans (by rw [counted]))
  have startUp : y.startUp = w.startUp := by rw [node.frame]
  have iso : a.isolates n x e ↔ s.isolates n x e := isolates_congr nodes trunks
  have taken := State.attentionOutcome_eq n code y
  have outcome : s.takeOutcome t n x e code = y.attentionOutcome n code := by rw [hy]; exact State.takeOutcome_eq t n x e code s
  rw [attention] at taken
  rw [outcome, taken]
  refine ⟨w, ?_, ?_, orders.trans node.orders, ⟨node.kept.1.trans kept.1, fun m => (node.kept.2 m).trans (kept.2 m)⟩, ?_, ?_,
    fun m h => ?_, fun m h => ?_, rfl, fun h => ?_, fun h => ?_, ?_⟩
  · rw [← iso]
    exact fun h => (node.stays h).trans ha
  · rw [← iso]
    intro h
    rw [node.ends h, ha]
    rfl
  · exact node.nodes.trans (by rw [nodes, interval, trunks])
  · exact node.nodeScheds.trans (by rw [nodeScheds, interval])
  · exact node.isolations m (by rw [iso, trunks]; exact h)
  · exact node.meters m (by rw [iso, trunks]; exact h)
  · have latched := node.latched (iso.mpr h)
    by_cases none : code = 0
    · simp only [if_pos none]
      exact latched
    · simp only [if_neg none]
      exact levelSet_notices_congr (t := w.flagged 0x0004) latched startUp _ _
  · have silent := node.silent (mt iso.mp h)
    by_cases none : code = 0
    · simp only [if_pos none]
      exact silent
    · simp only [if_neg none]
      exact levelSet_notices_congr silent startUp _ _
  · rw [node.frame]

end Sys2Proof.Machine
end

section
/-! PROOFS. What the end of an exchange leaves, by block (R71, R72, R94 to R98, R112, R138). -/

namespace Sys2Proof.Machine

open Sys2Proof

section Ended

variable {s z w : State} {t : TrunkId} {n : NodeId} {x : Exchange} {e : Ending} {code : Byte}
  (ended : s.ExchangeEnded t n x e code w z)

include ended

theorem ended_node : z.nodes[n] = s.nodes[n].after x e s.interval.tick s.trunks[trunkOf n].config.isolation := by
  rw [ended.nodes]
  exact upd_same _ _ _

theorem ended_node_other {m : NodeId} (other : m ≠ n) : z.nodes[m] = s.nodes[m] := by
  rw [ended.nodes]
  exact upd_other _ _ _ _ other

theorem ended_sched : z.nodeScheds[n] = s.nodeScheds[n].after e s.interval.tick := by
  rw [ended.nodeScheds]
  exact upd_same _ _ _

theorem ended_sched_get (m : NodeId) : z.nodeScheds[m] = if m ≠ n then s.nodeScheds[m]
    else if e = .busy then ⟨some (s.interval.tick + 3), true, false⟩ else { s.nodeScheds[n] with pollDue := false } := by
  by_cases own : m = n
  · rw [own, ended_sched ended, if_neg (not_not_intro rfl)]
    rfl
  · rw [if_pos own, ended.nodeScheds]
    exact upd_other _ _ _ _ own

/-- The NODE_ISOLATED flag of the state with the orders ended is that of the state before. -/
theorem ended_flag : w.notices.flags.getLsbD 2 = s.notices.flags.getLsbD 2 := by
  refine ended.kept.1.trans ?_
  rw [exchangeCounted_frame]

theorem ended_isolated (iso : s.isolates n x e) : z.notices.flags.getLsbD 2 = true := by
  have flagged : (w.flagged 0x0004).notices.flags.getLsbD 2 = true := by
    show (w.notices.flags ||| 0x0004).getLsbD 2 = true
    rw [BitVec.getLsbD_or]
    exact Bool.or_true _
  rw [ended.latched iso]
  split
  · exact flagged
  · exact (attention_bit _ _).trans flagged

theorem ended_silent (iso : ¬ s.isolates n x e) : z.notices.flags.getLsbD 2 = s.notices.flags.getLsbD 2 := by
  rw [ended.silent iso]
  split
  · exact ended_flag ended
  · exact (attention_bit _ _).trans (ended_flag ended)

/-- The counters of exchanges of the trunk, when its node is not isolated. -/
theorem ended_counts (m : TrunkId) (h : ¬ (s.isolates n x e ∧ m = trunkOf n ∧ s.trunks[m].state ≠ .disabled)) :
    z.meters[m].counts.exchanges = (s.exchangeCounted t x e).meters[m].counts.exchanges := by
  rw [ended.meters m h, ended.kept.2 m]

/-- The counters of exchanges of the trunk whose node is isolated (R96). -/
theorem ended_counts_isolated (m : TrunkId) (h : s.isolates n x e ∧ m = trunkOf n ∧ s.trunks[m].state ≠ .disabled) :
    z.meters[m].counts.exchanges = { (s.exchangeCounted t x e).meters[m].counts.exchanges with
      isolations := min 65535 ((s.exchangeCounted t x e).meters[m].counts.isolations + 1) } := by
  have same := ended.kept.2 m
  have isolations : w.meters[m].counts.isolations = (s.exchangeCounted t x e).meters[m].counts.isolations := by
    show w.meters[m].counts.exchanges.isolations = (s.exchangeCounted t x e).meters[m].counts.exchanges.isolations
    rw [same]
  rw [ended.isolations m h, ← same, ← isolations]
  rfl

/-- The counters of exchanges but that of the isolations. -/
theorem ended_counts_others (m : TrunkId) : { z.meters[m].counts.exchanges with isolations := 0 } =
    { (s.exchangeCounted t x e).meters[m].counts.exchanges with isolations := 0 } := by
  by_cases h : s.isolates n x e ∧ m = trunkOf n ∧ s.trunks[m].state ≠ .disabled
  · rw [ended_counts_isolated ended m h]
  · rw [ended_counts ended m h]

end Ended

theorem counted_counts {s : State} {t : TrunkId} (on : s.trunks[t].state ≠ .disabled) (x : Exchange) (e : Ending) :
    (s.exchangeCounted t x e).meters[t].counts = s.meters[t].counts.exchangeEnd x e (s.bytesMoved x e) := by
  rw [exchangeCounted_meters, if_pos ⟨rfl, on⟩]

/-- The counters of a trunk at the end of an exchange, one by one (R72). -/
theorem ended_fields {s z w : State} {t : TrunkId} {n : NodeId} {x : Exchange} {e : Ending} {code : Byte}
    (ended : s.ExchangeEnded t n x e code w z) (on : s.trunks[t].state ≠ .disabled) :
    let c := s.meters[t].counts
    let d := z.meters[t].counts
    d.started = min 65535 (c.started + 1) ∧ d.good = min 65535 (c.good + if e = .failure then 0 else 1) ∧
    d.noStart = min 65535 (c.noStart + x.noStart) ∧ d.broken = min 65535 (c.broken + x.broken) ∧
    d.stray = min 65535 (c.stray + x.stray) ∧ d.busy = min 65535 (c.busy + if e = .busy then 1 else 0) ∧
    d.retries = min 65535 (c.retries + x.retriesSent) ∧
    (trunkOf n = t → s.isolates n x e → d.isolations = min 65535 (c.isolations + 1)) ∧
    (¬ s.isolates n x e → d.isolations = c.isolations) ∧
    ((∀ p, e ≠ .ack p) ∨ x.order = none → d.bytesMoved = min 16777215 c.bytesMoved) ∧
    ∀ (p : List Byte) (tag : Byte) (o : Order), e = .ack p → x.order = some tag → s.table.find tag = some o →
      (o.kind = .pointRead ∨ o.kind = .pointWrite ∨ o.kind = .echoTest →
        d.bytesMoved = min 16777215 (c.bytesMoved + o.length)) ∧
      (o.kind = .bulkFetch → d.bytesMoved = min 16777215 (c.bytesMoved + p.length)) ∧
      (∀ g rest, o.kind = .bulkSend → o.chain = g :: rest →
        d.bytesMoved = min 16777215 (c.bytesMoved + (s.pool.seg g).fill)) ∧
      (o.kind = .nodeReset → d.bytesMoved = min 16777215 c.bytesMoved) := by
  intro c d
  have moved : (s.exchangeCounted t x e).meters[t].counts = c.exchangeEnd x e (s.bytesMoved x e) := counted_counts on x e
  have kept := ended_counts_others ended t
  have isolated (own : trunkOf n = t) (iso : s.isolates n x e) := ended_counts_isolated ended t ⟨iso, own.symm, on⟩
  have stays (iso : ¬ s.isolates n x e) := ended_counts ended t fun h => iso h.1
  rw [moved, exchangeEnd_counts] at kept
  rw [moved, exchangeEnd_counts] at isolated stays
  have bytes {k : Nat} (same : s.bytesMoved x e = k) : d.bytesMoved = min 16777215 (c.bytesMoved + k) := by
    rw [← same]
    exact congrArg Counters.bytesMoved kept
  refine ⟨congrArg Counters.started kept, congrArg Counters.good kept, congrArg Counters.noStart kept,
    congrArg Counters.broken kept, congrArg Counters.stray kept, congrArg Counters.busy kept, congrArg Counters.retries kept,
    fun own iso => congrArg Counters.isolations (isolated own iso), fun iso => ?_,
    fun none => bytes (bytesMoved_none none), fun p tag o ack order found => ?_⟩
  · have same := congrArg Counters.isolations (stays iso)
    exact same
  subst ack
  exact ⟨fun kind => bytes (bytesMoved_length p order found kind), fun kind => bytes (bytesMoved_fetch p order found kind),
    fun g rest kind chain => bytes (bytesMoved_send p order found kind chain),
    fun kind => bytes (bytesMoved_reset p order found kind)⟩

theorem exchangeCounted_engine (t : TrunkId) (x : Exchange) (e : Ending) (s : State) (m : TrunkId) :
    (s.exchangeCounted t x e).engines[m] = if m = t then { s.engines[t] with
      phase := .guard, exch := none, rx := [], rxFault := false, guardTimes := 2
      grant := s.engines[t].grant.map fun g => { g with ackEnded := match e with | .ack _ => true | _ => false } }
      else s.engines[m] := by
  rw [exchangeCounted_engines, exchangeEnded_eq] <;> rfl

theorem exchangeEnd_cases (t : TrunkId) (n : NodeId) (x : Exchange) (e : Ending) (code : Byte) (s : State) :
    s.exchangeEnd t n x e code = if s.trunks[t].state = .stopping then (s.takeOutcome t n x e code).enterDisabled t
      else s.takeOutcome t n x e code := by
  split
  next stops => exact exchangeEnd_stops stops n x e code
  next goesOn => exact exchangeEnd_goesOn goesOn n x e code

/-- Settles O47: the outcome at the order and the node, then the Attention List, then DISABLED on a STOPPING trunk. -/
theorem exchangeEndTaken : Obligations.ExchangeEndTaken := by
  refine ⟨fun tag s => ⟨fun o found queued => endIsolated_queued found queued, fun o found other => endIsolated_other found other,
    endIsolated_missing⟩, fun t n x e attention s => ?_⟩
  intro u now r inService failures isolates stops
  obtain ⟨w, ended⟩ := exchangeEnded_exists t n x e attention s
  obtain ⟨z, hz⟩ : ∃ z, z = s.takeOutcome t n x e attention := ⟨_, rfl⟩
  have engine := exchangeCounted_engine t x e s
  have trunk (m : TrunkId) := takeOutcome_trunk t n x e attention s m
  have last : u = if stops then z.enterDisabled t else z := hz ▸ exchangeEnd_cases t n x e attention s
  rw [← hz] at ended trunk
  have goesOn (h : ¬ stops) : u = z := last.trans (if_neg h)
  have atEnd (h : stops) : u = z.enterDisabled t := last.trans (if_pos h)
  have nodes : u.nodes = z.nodes := by
    by_cases h : stops
    · rw [atEnd h, enterDisabled_nodes]
    · rw [goesOn h]
  have list : u.attention = z.attention := by
    by_cases h : stops
    · rw [atEnd h, enterDisabled_attention]
    · rw [goesOn h]
  have notices : u.notices = z.notices := by
    by_cases h : stops
    · rw [atEnd h, enterDisabled_notices]
    · rw [goesOn h]
  refine ⟨?_, fun m other => ?_, ?_, fun busy h => ?_, fun busy h => ?_, fun iso => ?_, fun iso => ?_, fun none => ?_,
    fun some_ absent => ?_, fun some_ present => ?_, fun some_ quiet => ?_, fun h => ?_, fun h => ?_, fun h on => ?_, ?_⟩
  · rw [nodes, ended_node ended]
    cases e <;> rfl
  · rw [nodes, ended_node_other ended other]
  · by_cases h : stops
    · rw [atEnd h, enterDisabled_pollDue, ended_sched ended, after_pollDue]
    · rw [goesOn h, ended_sched ended, after_pollDue]
  · rw [goesOn h, ended_sched ended]
    exact if_pos busy
  · rw [goesOn h, ended_sched ended]
    exact if_neg busy
  · rw [notices, ended_isolated ended iso]
  · rw [notices, ended_silent ended iso]
  · rw [list, ended.attention, if_pos none]
  · rw [list, ended.attention, if_neg some_, takeAttention_new absent]
  · rw [list, ended.attention, if_neg some_, takeAttention_renewed present]
  · have woken := (trunk (trunkOf n)).trans (if_pos ⟨some_, rfl, quiet⟩)
    by_cases h : stops
    · have other : trunkOf n ≠ t := by
        intro same
        have here : s.trunks[trunkOf n].state = s.trunks[t].state := congrArg (fun m : TrunkId => s.trunks[m].state) same
        exact absurd (quiet.symm.trans (here.trans h)) nofun
      rw [atEnd h, enterDisabled_trunk_other other]
      exact woken
    · rw [goesOn h]
      exact woken
  · rw [atEnd h]
    exact enterDisabled_stopped t z
  · have engines : z.engines = (s.exchangeCounted t x e).engines := by
      rw [ended.frame]
      exact ended.orders.engines
    rw [goesOn h, engines]
    exact (engine t).trans (if_pos rfl)
  · rw [goesOn h]
    exact ended_fields ended on
  · intro c
    refine ⟨s.exchangeCounted t x e, w, z, engine, fun m => ?_, exchangeCounted_frame t x e s, ended.stays, ended.ends,
      ended_sched_get ended, trunk, fun m => ?_, ?_, ?_, last⟩
    · rw [exchangeCounted_meters, exchangeEnd_counts]
    · by_cases h : isolates ∧ m = trunkOf n ∧ s.trunks[m].state ≠ .disabled
      · exact (ended.isolations m h).trans (if_pos h).symm
      · exact (ended.meters m h).trans (if_neg h).symm
    · rw [list]
      by_cases iso : isolates
      · exact (ended.latched iso).trans (by simp only [if_pos iso])
      · exact (ended.silent iso).trans (by simp only [if_neg iso])
    · rw [nodes, list]
      exact ended.frame

end Sys2Proof.Machine
end

section
/-! PROOFS. What a state operation does not read: the buffer of the host line. -/

namespace Sys2Proof.Machine

open Sys2Proof

/-- The state with another buffer of the host line. -/
def State.withBuffer (frame : List Byte) (s : State) : State := s.aside (fun h => { h with buffer := frame }) id id

/-- An operation that neither reads nor changes the buffer of the host line. -/
def BufferBlind (op : State → State) : Prop := ∀ frame, Commutes (State.withBuffer frame) op

namespace BufferBlind

theorem comp {op next : State → State} (hop : BufferBlind op) (hnext : BufferBlind next) : BufferBlind fun s => next (op s) :=
  fun frame => (hop frame).comp (hnext frame)

theorem forAll {α : Type} {op : α → State → State} (h : ∀ a, BufferBlind (op a)) (l : List α) :
    BufferBlind (Machine.forAll op l) := fun frame => Commutes.forAll (fun a => h a frame) l

/-- An operation on a list that the state determines. -/
theorem forAllOf {α : Type} {op : α → State → State} (h : ∀ a, BufferBlind (op a)) {list : State → List α}
    (same : ∀ frame s, list (s.withBuffer frame) = list s) : BufferBlind fun s => Machine.forAll op (list s) s := fun frame s => by
  show Machine.forAll op (list (s.withBuffer frame)) (s.withBuffer frame) = _
  rw [same]
  exact forAll h (list s) frame s

/-- A choice by a condition that does not read the buffer. -/
theorem ite {op other : State → State} {c : State → Prop} [∀ s, Decidable (c s)] (same : ∀ frame s, c (s.withBuffer frame) = c s)
    (hop : BufferBlind op) (hother : BufferBlind other) : BufferBlind fun s => if c s then op s else other s := fun frame s => by
  show (if c (s.withBuffer frame) then op (s.withBuffer frame) else other (s.withBuffer frame)) = _
  by_cases h : c s
  · exact (if_pos ((same frame s).mpr h)).trans ((hop frame s).trans (congrArg _ (if_pos h).symm))
  · exact (if_neg fun k => h ((same frame s).mp k)).trans ((hother frame s).trans (congrArg _ (if_neg h).symm))

theorem unchanged : BufferBlind fun s => s := fun _ _ => rfl

end BufferBlind

/-! ## The end of an order and the entry into QUEUED -/

theorem endOrder_blind (tag : Byte) (r : Result) (nak : Byte) : BufferBlind (State.endOrder tag r nak) := fun _ =>
  endOrder_aside _ id id tag r nak

theorem dropHeld_blind (o : Order) : BufferBlind (State.dropHeld o) := fun _ => dropHeld_aside _ id id o

theorem endOrMark_blind (m : Mark) (tag : Byte) : BufferBlind (State.endOrMark m tag) := fun frame s => by
  unfold State.endOrMark
  rw [show (s.withBuffer frame).table = s.table from rfl]
  cases s.table.find tag with
  | none => rfl
  | some o =>
    have ended := endOrder_blind tag m.result 0 frame s
    cases state : o.state with
    | filling => simp only [state]; exact ended
    | queued => simp only [state]; exact ended
    | active =>
      simp only [state]
      exact BufferBlind.ite (c := fun s => s.orderInFlight o = true) (fun _ _ => rfl) (fun _ _ => rfl)
        (endOrder_blind tag m.result 0) frame s
    | ended => simp only [state]
    | parked => simp only [state]

theorem wake_blind (t : TrunkId) : BufferBlind (State.wake t) :=
  .ite (fun _ _ => rfl) (fun _ _ => rfl) .unchanged

theorem raisePeak_blind (t : TrunkId) : BufferBlind (State.raisePeak t) := fun _ _ => rfl

theorem enterQueued_blind (tag : Byte) : BufferBlind (State.enterQueued tag) := fun frame s => by
  unfold State.enterQueued
  dsimp only
  rw [show ((s.withBuffer frame).modTable (OrderTable.update tag fun o => { o with state := .queued })).table =
    (s.modTable (OrderTable.update tag fun o => { o with state := .queued })).table from rfl]
  cases (s.modTable (OrderTable.update tag fun o => { o with state := .queued })).table.find tag with
  | none => rfl
  | some o =>
    exact (wake_blind (trunkOf o.node)).comp (raisePeak_blind (trunkOf o.node)) frame
      ((s.modTable (OrderTable.update tag fun o => { o with state := .queued })).modTable (OrderTable.enqueue o))

/-! ## The trunk-free event -/

theorem groupServed_withBuffer (frame : List Byte) (s : State) (t : TrunkId) :
    (s.withBuffer frame).groupServed t = s.groupServed t := rfl

theorem placeChosen_withBuffer (frame : List Byte) (s : State) (t : TrunkId) (g : Group) :
    (s.withBuffer frame).placeChosen t g = s.placeChosen t g := rfl

theorem updatePassOver_blind (t : TrunkId) (g : Group) : BufferBlind (State.updatePassOver t g) := fun _ _ => rfl

theorem startAnnounce_blind (t : TrunkId) : BufferBlind (State.startAnnounce t) := fun _ _ => rfl

theorem startPoll_blind (n : NodeId) : BufferBlind (State.startPoll n) := fun _ _ => rfl

theorem startOrderExchange_blind (n : NodeId) (o : Order) (burst : Nat) : BufferBlind (State.startOrderExchange n o burst) :=
  fun frame s => by
    unfold State.startOrderExchange
    dsimp only
    rw [dropHeld_blind]
    rfl

theorem startFor_blind (g : Group) (n : NodeId) : BufferBlind (State.startFor g n) := fun frame s => by
  cases g with
  | announce => rfl
  | poll => exact startPoll_blind n frame s
  | urgent =>
    unfold State.startFor
    dsimp only
    rw [show (s.withBuffer frame).table = s.table from rfl]
    cases s.table.head n with
    | none => rfl
    | some o => exact startOrderExchange_blind n o 1 frame s
  | routine =>
    unfold State.startFor
    dsimp only
    rw [show (s.withBuffer frame).table = s.table from rfl]
    cases s.table.head n with
    | none => rfl
    | some o => exact startOrderExchange_blind n o 1 frame s

theorem turnPointer_blind (t : TrunkId) (g : Group) (k : Fin 8) :
    BufferBlind fun s => if s.trunks[t].config.rotates g then s.modSched t (Scheduler.setPointer g k) else s :=
  .ite (fun _ _ => rfl) (fun _ _ => rfl) .unchanged

theorem grant_blind (t : TrunkId) (g : Group) (k : Fin 8) : BufferBlind fun s =>
    (if (s.updatePassOver t g).trunks[t].config.rotates g then (s.updatePassOver t g).modSched t (Scheduler.setPointer g k)
      else s.updatePassOver t g).startFor g (nodeAt t k) :=
  ((updatePassOver_blind t g).comp (turnPointer_blind t g k)).comp (startFor_blind g (nodeAt t k))

theorem trunkFree_blind (t : TrunkId) : BufferBlind (State.trunkFree t) := fun frame s => by
  have granted (g : Group) : (match (s.withBuffer frame).placeChosen t g with
      | none => s.withBuffer frame
      | some k => State.startFor g (nodeAt t k) (if ((s.withBuffer frame).updatePassOver t g).trunks[t].config.rotates g then
          ((s.withBuffer frame).updatePassOver t g).modSched t (Scheduler.setPointer g k)
        else (s.withBuffer frame).updatePassOver t g)) =
      (match s.placeChosen t g with
      | none => s
      | some k => State.startFor g (nodeAt t k) (if (s.updatePassOver t g).trunks[t].config.rotates g then
          (s.updatePassOver t g).modSched t (Scheduler.setPointer g k)
        else s.updatePassOver t g)).withBuffer frame := by
    rw [placeChosen_withBuffer]
    cases s.placeChosen t g with
    | none => rfl
    | some k => exact grant_blind t g k frame s
  unfold State.trunkFree
  rw [show (s.withBuffer frame).isFree t = s.isFree t from rfl, groupServed_withBuffer]
  by_cases free : s.isFree t
  · rw [if_pos free, if_pos free]
    cases s.groupServed t with
    | none => rfl
    | some g =>
      cases g with
      | announce => exact (updatePassOver_blind t .announce).comp (startAnnounce_blind t) frame s
      | urgent => exact granted .urgent
      | routine => exact granted .routine
      | poll => exact granted .poll
  · rw [if_neg free, if_neg free]

end Sys2Proof.Machine
end

section
/-! PROOFS. The requests do not read the buffer of the host line: their operations, then the 29 requests. -/

namespace Sys2Proof.Machine

open Sys2Proof

/-! ## The operations of the requests -/

theorem modTrunk_blind (t : TrunkId) (f : TrunkControl → TrunkControl) : BufferBlind (State.modTrunk t f) := fun _ _ => rfl

theorem modSched_blind (t : TrunkId) (f : Scheduler → Scheduler) : BufferBlind (State.modSched t f) := fun _ _ => rfl

theorem modMeter_blind (t : TrunkId) (f : Meter → Meter) : BufferBlind (State.modMeter t f) := fun _ _ => rfl

theorem modSupply_blind (t : TrunkId) (f : SupplyMonitor → SupplyMonitor) : BufferBlind (State.modSupply t f) := fun _ _ => rfl

theorem modNode_blind (n : NodeId) (f : NodeRecord → NodeRecord) : BufferBlind (State.modNode n f) := fun _ _ => rfl

theorem modInterval_blind (f : IntervalUnit → IntervalUnit) : BufferBlind (State.modInterval f) := fun _ _ => rfl

theorem modPool_blind (f : SegmentPool → SegmentPool) : BufferBlind (State.modPool f) := fun _ _ => rfl

theorem clearBackoffs_blind (t : TrunkId) : BufferBlind (State.clearBackoffs t) :=
  (modSched_blind t _).comp (.forAll (fun _ _ _ => rfl) (trunkNodes t))

theorem enterDisabled_blind (t : TrunkId) : BufferBlind (State.enterDisabled t) :=
  ((((modSupply_blind t _).comp (modTrunk_blind t _)).comp fun _ _ => rfl).comp (clearBackoffs_blind t)).comp (modMeter_blind t _)

theorem unseenNodes_blind (t : TrunkId) : BufferBlind
    (forAll (fun n => State.modNode n fun r => { r with state := if r.state = .online then .unseen else r.state }) (trunkNodes t)) :=
  .forAll (fun n => modNode_blind n _) (trunkNodes t)

theorem enterActive_blind (t : TrunkId) (w : WaitIndication) : BufferBlind (State.enterActive t w) := fun frame s =>
  unseenNodes_blind t frame ((s.modTrunk t fun c => { c with state := .active, wait := w, idleCount := 0 }).modSched t fun g =>
    { g with ptrU := 7, ptrR := 7, ptrP := 7, passR := 0, passP := 0,
             announce := decide ((s.modTrunk t fun c => { c with state := .active, wait := w, idleCount := 0 }).trunks[t].mode ≠ 63) })

theorem disableRunning_blind (t : TrunkId) : BufferBlind (State.disableRunning t) :=
  have ended : BufferBlind fun s => forAll (State.endOrMark .cancel) (s.trunkQueueTags t) s :=
    .forAllOf (endOrMark_blind .cancel) fun _ _ => rfl
  .ite (c := fun s => s.trunkInFlight t = true) (fun _ _ => rfl)
    (((ended.comp (modTrunk_blind t _)).comp (modSupply_blind t _)).comp (modSched_blind t _)) (ended.comp (enterDisabled_blind t))

theorem writeMode_blind (code : BitVec 6) (t : TrunkId) : BufferBlind (State.writeMode code t) :=
  have written : BufferBlind (State.modTrunk t fun c => { c with mode := code }) := modTrunk_blind t _
  .ite (fun _ _ => rfl) .unchanged (.ite (fun _ _ => rfl) ((written.comp (modSched_blind t _)).comp (trunkFree_blind t)) written)

theorem returnNode_blind (n : NodeId) : BufferBlind (State.returnNode n) :=
  (modNode_blind n _).comp (trunkFree_blind (trunkOf n))

theorem trunksFree_blind : BufferBlind State.trunksFree := .forAll trunkFree_blind allTrunks

theorem idleUpdate_blind (t : TrunkId) : BufferBlind (State.idleUpdate t) := fun _ _ => rfl

theorem intervalStartTrunk_blind (t : TrunkId) : BufferBlind (State.intervalStartTrunk t) :=
  .ite (fun _ _ => rfl) (fun _ _ => rfl) fun _ _ => rfl

theorem reportTrunk_blind (short : Bool) (span : Nat) (t : TrunkId) : BufferBlind (State.reportTrunk short span t) :=
  .ite (fun _ _ => rfl) .unchanged (.ite (fun _ _ => rfl) (fun _ _ => rfl) fun _ _ => rfl)

theorem closeInterval_blind (short : Bool) (span : Nat) : BufferBlind (State.closeInterval short span) := fun frame s => by
  have reported : BufferBlind (forAll (State.reportTrunk short span) allTrunks) := .forAll (reportTrunk_blind short span) allTrunks
  have updated : BufferBlind (forAll State.idleUpdate allTrunks) := .forAll idleUpdate_blind allTrunks
  have started : BufferBlind (forAll State.intervalStartTrunk allTrunks) := .forAll intervalStartTrunk_blind allTrunks
  unfold State.closeInterval
  dsimp only
  rw [reported frame s, updated frame _, started frame _, modInterval_blind _ frame _, trunksFree_blind frame _]

theorem postBacklog_blind : BufferBlind fun s => State.post s.table.backlog.length s := fun _ s =>
  post_aside _ id id s.table.backlog.length s

theorem takeEffect_blind (r : Nat) : BufferBlind (takeEffect r) := fun frame s =>
  congrArg State.takeCompletionsLevel (postBacklog_blind frame
    (s.modCompletions fun q => CompletionQueue.testHead s.interval.tick { q with records := q.records.drop r }))

/-- What an accepted SUBMIT_ORDER does before the entry into QUEUED. -/
theorem submitTabled_blind (o : Order) (k : Nat) (owner : Owner) : BufferBlind fun s =>
    (if o.kind.isBulk then s.modPool (SegmentPool.allocate k o.tag owner) else s).modTable
      (OrderTable.add { o with chain := s.pool.freeList.take k }) := fun frame s => by
  cases o.kind.isBulk <;> rfl

theorem submitEffect_blind (o : Order) : BufferBlind (submitEffect o) :=
  have tabled := submitTabled_blind o (if o.kind.isBulk then segmentsFor o.length else 0)
    (if o.kind = .bulkSend then Owner.hostSide else Owner.trunkSide)
  .ite (fun _ _ => rfl) tabled ((tabled.comp (enterQueued_blind o.tag)).comp (trunkFree_blind (trunkOf o.node)))

theorem commit_blind (o : Order) : BufferBlind fun s =>
    ((s.modPool fun p => o.chain.foldl (fun p g => p.setOwner .trunkSide g) p).enterQueued o.tag).trunkFree (trunkOf o.node) :=
  ((modPool_blind _).comp (enterQueued_blind o.tag)).comp (trunkFree_blind (trunkOf o.node))

theorem cancel_blind (o : Order) : BufferBlind fun s => (s.endOrMark .cancel o.tag).trunkFree (trunkOf o.node) :=
  (endOrMark_blind .cancel o.tag).comp (trunkFree_blind (trunkOf o.node))

/-! ## The answers -/

/-- An answer with another buffer of the host line in its state. -/
def Answer.withBuffer (frame : List Byte) (a : Answer) : Answer := { a with state := a.state.withBuffer frame }

/-- An answer that neither reads nor changes the buffer of the host line. -/
def AnswerBlind (body : State → Answer) : Prop := ∀ frame s, body (s.withBuffer frame) = (body s).withBuffer frame

namespace AnswerBlind

theorem refused (o : OutcomeCode) : AnswerBlind (refuse o) := fun _ _ => rfl

theorem accepted {op : State → State} (h : BufferBlind op) : AnswerBlind fun s => accept (op s) := fun frame s =>
  congrArg accept (h frame s)

theorem acceptedWith {reply : State → List Byte} {op : State → State} (same : ∀ frame s, reply (s.withBuffer frame) = reply s)
    (h : BufferBlind op) : AnswerBlind fun s => acceptWith (reply s) (op s) := fun frame s => by
  show acceptWith (reply (s.withBuffer frame)) (op (s.withBuffer frame)) = acceptWith (reply s) ((op s).withBuffer frame)
  rw [same, h frame s]

theorem read {reply : State → List Byte} (same : ∀ frame s, reply (s.withBuffer frame) = reply s) :
    AnswerBlind fun s => acceptWith (reply s) s := acceptedWith same .unchanged

theorem ofChecked {gate : PartState → Option OutcomeCode} {l f : Bool} {body : State → Answer} (h : AnswerBlind body) :
    AnswerBlind (checked gate l f body) := fun frame s => by
  unfold checked
  rw [show (s.withBuffer frame).startUp = s.startUp from rfl, h frame s]
  cases l with
  | false => rfl
  | true =>
    cases f with
    | false => rfl
    | true =>
      cases gate s.startUp.part with
      | none => rfl
      | some o => rfl

theorem ofTests {tests : State → List (Bool × OutcomeCode)} {body : State → Answer}
    (same : ∀ frame s, tests (s.withBuffer frame) = tests s) (h : AnswerBlind body) :
    AnswerBlind fun s => firstOf (tests s) body s := fun frame s => by
  dsimp only
  unfold firstOf
  rw [same, h frame s]
  cases (tests s).find? fun c => c.1 with
  | none => rfl
  | some c => rfl

theorem ofOrder {tag : Byte} {body : Order → State → Answer} (h : ∀ o, AnswerBlind (body o)) :
    AnswerBlind (withOrder tag body) := fun frame s => by
  unfold withOrder
  rw [show (s.withBuffer frame).table = s.table from rfl]
  cases s.table.find tag with
  | none => rfl
  | some o => exact h o frame s

theorem ofTag {p : List Byte} {body : Order → State → Answer} (h : ∀ o, AnswerBlind (body o)) :
    AnswerBlind (tagRequest p body) := ofChecked (ofOrder h)

theorem ofNode {p : List Byte} {body : NodeId → State → Answer} (h : ∀ n, AnswerBlind (body n)) :
    AnswerBlind (nodeRequest p body) := ofChecked fun frame s => by
  cases nodeOfByte (byteAt p 0) with
  | none => rfl
  | some n => exact h n frame s

theorem ofTrunk {length : Nat} {fieldsOk : Bool} {p : List Byte} {body : TrunkId → State → Answer} (h : ∀ t, AnswerBlind (body t)) :
    AnswerBlind (trunkRequest length fieldsOk p body) := ofChecked fun frame s => by
  cases trunkOfByte (byteAt p 0) with
  | none => rfl
  | some t => exact h t frame s

end AnswerBlind

end Sys2Proof.Machine
end

section
/-! PROOFS. No request reads or changes the buffer of the host line. -/

namespace Sys2Proof.Machine

open Sys2Proof

namespace AnswerBlind

theorem clearsNotices (selected : Word) : AnswerBlind fun s => acceptWith (clearNoticesPayload s)
    ((if selected.getLsbD NoticeFlag.lineError.bit then s.modHostLine fun h => { h with errorCount := 0 } else s).withNotices fun n =>
      { n with
        flags := n.flags &&& ~~~(latchedFlags &&& selected)
        faultSeen := if selected.getLsbD NoticeFlag.trunkDown.bit then Vector.replicate 3 false else n.faultSeen }) :=
  acceptedWith (fun _ _ => rfl) fun frame s => by cases selected.getLsbD NoticeFlag.lineError.bit <;> rfl

theorem submitsOrder (p : List Byte) : AnswerBlind (reqSubmitOrder p) := ofChecked fun frame s => by
  rw [show (s.withBuffer frame).interval = s.interval from rfl]
  cases submittedOrder p s.interval.tick with
  | none => rfl
  | some o => exact ofTests (tests := submitTests o) (fun _ _ => rfl) (accepted (submitEffect_blind o)) frame s

theorem cancelsOrder (o : Order) : AnswerBlind fun s =>
    if s.orderInFlight o then ⟨s.endOrMark .cancel o.tag, .cancelPending, []⟩
    else accept ((s.endOrMark .cancel o.tag).trunkFree (trunkOf o.node)) := fun frame s => by
  have marked := congrArg (fun u => (⟨u, .cancelPending, []⟩ : Answer)) (endOrMark_blind .cancel o.tag frame s)
  have ended := accepted (cancel_blind o) frame s
  dsimp only at marked ended ⊢
  rw [marked, ended, show (s.withBuffer frame).orderInFlight o = s.orderInFlight o from rfl]
  cases s.orderInFlight o <;> rfl

theorem takesCompletions (p : List Byte) : AnswerBlind (reqTakeCompletions p) := ofChecked fun frame s => by
  dsimp only
  rw [show (s.withBuffer frame).completions = s.completions from rfl, takeEffect_blind _ frame s]
  rfl

theorem enablesNode (p : List Byte) : AnswerBlind (reqEnableNode p) := ofNode fun n frame s => by
  rw [show (s.withBuffer frame).nodes = s.nodes from rfl]
  cases s.nodes[n].state with
  | disabled => exact accepted (returnNode_blind n) frame s
  | unseen => rfl
  | online => rfl
  | isolated => rfl

theorem restoresNode (p : List Byte) : AnswerBlind (reqRestoreNode p) := ofNode fun n frame s => by
  rw [show (s.withBuffer frame).nodes = s.nodes from rfl]
  cases s.nodes[n].state with
  | isolated => exact accepted (returnNode_blind n) frame s
  | disabled => rfl
  | unseen => rfl
  | online => rfl

theorem disablesNode (p : List Byte) : AnswerBlind (reqDisableNode p) := ofNode fun n frame s => by
  have ended := congrArg accept (BufferBlind.forAll (endOrMark_blind .cancel) (s.table.queue n) frame
    (s.modNode n fun r => { r with state := .disabled }))
  rw [show (s.withBuffer frame).nodes = s.nodes from rfl]
  cases s.nodes[n].state with
  | disabled => rfl
  | unseen => exact ended
  | online => exact ended
  | isolated => exact ended

theorem disablesTrunk (p : List Byte) : AnswerBlind (reqDisableTrunk p) := ofTrunk fun t frame s => by
  rw [show (s.withBuffer frame).trunks = s.trunks from rfl]
  cases s.trunks[t].state with
  | active => exact accepted (disableRunning_blind t) frame s
  | quiet => exact accepted (disableRunning_blind t) frame s
  | down => exact accepted (enterDisabled_blind t) frame s
  | stopping => rfl
  | disabled => rfl

theorem readsReport (p : List Byte) : AnswerBlind (reqReadReport p) := ofTrunk fun t frame s => by
  rw [show (s.withBuffer frame).meters = s.meters from rfl]
  cases s.meters[t].ring[(byteAt p 1).toNat]? with
  | none => rfl
  | some r => rfl

theorem closesInterval : AnswerBlind fun s => accept (s.closeInterval true s.interval.position) := fun frame s =>
  accepted (closeInterval_blind true s.interval.position) frame s

end AnswerBlind

open AnswerBlind in
/-- Every request is blind to the buffer. -/
theorem KnownRequest.blind {req : Request} (h : KnownRequest req) (p : List Byte) : AnswerBlind (req p) := by
  cases h with
  | readIdentity => exact ofChecked (read fun _ _ => rfl)
  | readStatus => exact ofChecked (read fun _ _ => rfl)
  | resetPart => exact ofChecked (accepted .unchanged)
  | setNoticeMask => exact ofChecked (accepted fun _ _ => rfl)
  | clearNotices => exact ofChecked (clearsNotices _)
  | submitOrder => exact submitsOrder p
  | fillOrder => exact ofChecked (ofOrder fun o => ofTests (fun _ _ => rfl) (accepted fun _ _ => rfl))
  | commitOrder => exact ofTag fun o => ofTests (fun _ _ => rfl) (accepted (commit_blind o))
  | cancelOrder =>
    refine ofTag fun o => ?_
    cases o.state with
    | filling => exact accepted (cancel_blind o)
    | queued => exact accepted (cancel_blind o)
    | active => exact cancelsOrder o
    | ended => exact refused _
    | parked => exact refused _
  | readOrder => exact ofTag fun o => read fun _ _ => rfl
  | readFetched => exact ofChecked (ofOrder fun o => ofTests (fun _ _ => rfl) (read fun _ _ => rfl))
  | retireOrder =>
    refine ofTag fun o => ?_
    cases o.state with
    | parked => exact accepted fun _ _ => rfl
    | filling => exact refused _
    | queued => exact refused _
    | active => exact refused _
    | ended => exact refused _
  | takeCompletions => exact takesCompletions p
  | setCompletionNotice => exact ofChecked (accepted fun _ _ => rfl)
  | readAttention => exact ofChecked (acceptedWith (fun _ _ => rfl) fun _ _ => rfl)
  | clearAttention => exact ofChecked (acceptedWith (fun _ _ => rfl) fun _ _ => rfl)
  | readNode => exact ofNode fun n => read fun _ _ => rfl
  | enableNode => exact enablesNode p
  | disableNode => exact disablesNode p
  | restoreNode => exact restoresNode p
  | setTrunk => exact ofTrunk fun t => ofTests (fun _ _ => rfl) (accepted fun _ _ => rfl)
  | readTrunk => exact ofTrunk fun t => read fun _ _ => rfl
  | enableTrunk =>
    exact ofTrunk fun t => ofTests (fun _ _ => rfl) (accepted ((modSupply_blind t _).comp (enterActive_blind t .settle)))
  | disableTrunk => exact disablesTrunk p
  | setModeCode => exact ofChecked (accepted (.forAll (writeMode_blind _) _))
  | readReport => exact readsReport p
  | setInterval => exact ofChecked (accepted fun _ _ => rfl)
  | syncInterval => exact ofChecked closesInterval
  | resetPeak => exact ofTrunk fun t => acceptedWith (fun _ _ => rfl) fun _ _ => rfl

end Sys2Proof.Machine
end

section
/-! PROOFS. A good complete frame (R169 to R171): another unit's, an unknown kind, a request to this unit, the broadcasts. -/

namespace Sys2Proof.Machine

open Sys2Proof

/-! ## Frames addressed to the part -/

theorem requestOf_unknown {kind : Byte} (unknown : kind ∉ knownKinds) : requestOf kind = none := by
  have all : ∀ k : Byte, k ∉ knownKinds → (requestOf k).isNone := by decide
  exact Option.isNone_iff_eq_none.mp (all kind unknown)

theorem takeAddressed_unknown (kind : Byte) (frame p : List Byte) (s : State) :
    takeAddressed kind frame reqUnknown p (s.hrxByte false) =
      { s with hostLine := { s.hostLine with
          receiver := .replying, buffer := frame, gapTimer := false, hrxLow := false, lineHold := false,
          replyErrorCounted := false, reply := some ⟨kind, .unknownKind, [], false⟩ } } :=
  congrArg (((s.hrxByte false).frameTaken frame).withReply kind .unknownKind []) (Bool.and_false (decide (kind = 0x03)))

theorem fixed_withBuffer (frame : List Byte) (kind : Byte) (a : Answer) :
    (a.withBuffer frame).fixed kind = (a.fixed kind).withBuffer frame := rfl

/-- A request to this unit whose byte 1 is not the one of the request command: the two differ in the buffer alone. -/
theorem takeAddressed_withBuffer {req : Request} (known : KnownRequest req) (kind : Byte) (frame p : List Byte) (s : State) :
    takeAddressed kind frame req p (s.hrxByte false) = ((req p (s.taken kind p)).fixed kind).withBuffer frame :=
  (congrArg (Answer.fixed kind) (known.blind p frame (s.taken kind p))).trans (fixed_withBuffer frame kind _)

/-- A request to this unit, received byte by byte. -/
theorem frameComplete_request {i : Instr} {kind : Byte} {p frame : List Byte} {s : State} (hears : s.hears) (good : byteSum frame = 0xA5)
    (addressed : (byteAt frame 1).getLsbD 7 = false) (own : (byteAt frame 1).setWidth 2 = s.hostLine.unit)
    (hk : byteAt frame 2 = kind) (hp : (frame.drop 4).take (byteAt frame 3).toNat = p) (fits : p.length ≤ 200)
    (request : i.request? = some (kind, p)) :
    ∃ t : State, exec i s = .next t ∧ frameComplete frame (s.hrxByte false) = t.withBuffer frame := by
  obtain ⟨req, known, run⟩ := exec_request request
  refine ⟨_, run s, ?_⟩
  rw [deliver_heard hears kind req fits, frameComplete_addressed (s := s.hrxByte false) good addressed own, hk, hp, known]
  exact takeAddressed_withBuffer (.of_requestOf known) kind frame p s

/-! ## Broadcasts -/

theorem takeBroadcast_other {kind : Byte} (reset : kind ≠ 0x03) (mode : kind ≠ 0x2C) (sync : kind ≠ 0x32) (p : List Byte) (s : State) :
    takeBroadcast kind p s = s.lineErrored := by
  unfold takeBroadcast
  split
  next same => exact absurd (BitVec.eq_of_toNat_eq same) reset
  next same => exact absurd (BitVec.eq_of_toNat_eq same) mode
  next same => exact absurd (BitVec.eq_of_toNat_eq same) sync
  next => rfl

theorem takeBroadcast_reset {s : State} (awake : s.startUp.part ≠ .inReset) (p : List Byte) :
    takeBroadcast 0x03 p s = if p = [] ∧ s.startUp.part ≠ .starting then s.beginReset .request else s := by
  show (if (checked gateIdentity p.isEmpty true accept s).outcome = .accepted then
    (checked gateIdentity p.isEmpty true accept s).state.beginReset .request else s) = _
  unfold checked
  cases p with
  | cons b p => exact (if_neg nofun).symm
  | nil =>
    cases part : s.startUp.part with
    | inReset => exact absurd part awake
    | starting => rfl
    | ready => rfl
    | failed => rfl

theorem checked_ready_state {l f : Bool} {op : State → State} (s : State) :
    (checked gateReady l f (fun s => accept (op s)) s).state =
      if l = true ∧ f = true ∧ s.startUp.part = .ready then op s else s := by
  unfold checked
  cases l with
  | false => rfl
  | true =>
    cases f with
    | false => rfl
    | true => cases s.startUp.part <;> rfl

theorem takeBroadcast_sync (p : List Byte) (s : State) :
    takeBroadcast 0x32 p s = if p = [] ∧ s.startUp.part = .ready then s.closeInterval true s.interval.position else s := by
  refine (checked_ready_state (op := fun s => s.closeInterval true s.interval.position) s).trans (if_congr ?_ rfl rfl)
  rw [List.isEmpty_iff]
  exact ⟨fun ⟨empty, _, ready⟩ => ⟨empty, ready⟩, fun ⟨empty, ready⟩ => ⟨empty, rfl, ready⟩⟩

theorem takeBroadcast_mode (p : List Byte) (s : State) :
    takeBroadcast 0x2C p s = if p.length = 2 ∧ (byteAt p 0).toNat ≤ 3 ∧ (byteAt p 1).toNat ≤ 63 ∧ s.startUp.part = .ready then
      [0, 1, 2].foldl (fun v t => v.writeMode ((byteAt p 1).setWidth 6) t) s else s := by
  refine (checked_ready_state (op := forAll (State.writeMode ((byteAt p 1).setWidth 6)) (modeTrunks true (byteAt p 0))) s).trans
    (if_congr ?_ rfl rfl)
  rw [Bool.and_eq_true, decide_eq_true_iff, decide_eq_true_iff, decide_eq_true_iff, and_assoc]

/-- Settles O6: by byte 1 and byte 2 of the frame. -/
theorem goodFrameAddressedOrBroadcast : Obligations.GoodFrameAddressedOrBroadcast := by
  intro b s completes good
  have taken : exec (.hostByteReceived b false) s = .next (frameComplete (s.bufferWith b) (s.hrxByte false)) :=
    exec_completes completes
  obtain ⟨awake, inFrame, -⟩ := completes
  have hears : s.hears := ⟨awake, by rw [inFrame]; nofun⟩
  refine ⟨fun addressed other => ?_, fun addressed own unknown => ?_, fun addressed own fits i request => ?_,
    fun broadcast => ?_⟩
  · rw [taken, frameComplete_other (s := s.hrxByte false) good addressed other]
  · rw [taken, frameComplete_addressed (s := s.hrxByte false) good addressed own, requestOf_unknown unknown]
    exact congrArg _ (takeAddressed_unknown _ _ _ s)
  · obtain ⟨t, run, complete⟩ := frameComplete_request hears good addressed own rfl rfl fits request
    exact ⟨t, run, taken.trans (congrArg _ complete)⟩
  · rw [taken, frameComplete_broadcast good broadcast]
    refine ⟨fun reset mode sync => congrArg _ (takeBroadcast_other reset mode sync _ _), fun kind => ?_, fun kind => ?_,
      fun kind => ?_⟩
    · rw [kind]
      exact congrArg _ (takeBroadcast_reset (s := (s.hrxByte false).hunting) awake _)
    · rw [kind]
      exact congrArg _ (takeBroadcast_sync _ _)
    · rw [kind]
      exact congrArg _ (takeBroadcast_mode _ _)

end Sys2Proof.Machine
end
